-- ==== Sys2Proof/Word.lean ====
section
/-! DEFINITION. The two widths of the machine: data bytes and bus addresses
(spec/00_scope.md section 4, "Fixed widths": data 8 bits, address 16 bits). -/

namespace Sys2Proof

/-- One byte: a register A, X, Y, SP, P, a memory byte, an opcode or an operand byte (R20, R50). -/
abbrev Byte := BitVec 8

/-- A 16-bit bus address, PC, or a 16-bit operand word (R22, R50). -/
abbrev Addr := BitVec 16

end Sys2Proof
end

