-- ==== Sys2Proof/Machine/Bits.lean ====
section
/-! DEFINITION. The bit-field, byte-order and extension helpers of spec/00_scope.md section 6. -/

namespace Sys2Proof.Machine

/-- `w[7:0]`. -/
def loByte (w : Addr) : Byte := w.setWidth 8

/-- `w[15:8]`. -/
def hiByte (w : Addr) : Byte := (w >>> 8).setWidth 8

/-- The concatenation of a high and a low byte, `hi*256 + lo`. -/
def mkWord (hi lo : Byte) : Addr := hi ++ lo

/-- `zext_16(b)`. -/
def zext16 (b : Byte) : Addr := b.setWidth 16

/-- `sext_16(b)`: `b` where bit 7 is 0, else `b + 0xFF00`. -/
def sext16 (b : Byte) : Addr := b.signExtend 16

/-- "page-crossed iff high byte differs": the two addresses lie on different pages (R132). -/
def pageDiffers (u v : Addr) : Bool := hiByte u != hiByte v

/-- The stack address `0x0100 | SP` (R21). -/
def stackAddr (sp : Byte) : Addr := mkWord 0x01#8 sp

end Sys2Proof.Machine
end

