-- ==== Sys2Proof/Config.lean ====
section
/-! DEFINITION. What an implementation fixes, the constants of the address map, and the two free
values of the spec, which have no body: nothing can be proved about their value. -/

namespace Sys2Proof

/-- One call a device receives from the bus (R54): the plain data a device's hidden state is a
function of. -/
inductive DeviceAccess where
  | read (a : Addr)
  | write (a : Addr) (v : Byte)
  deriving DecidableEq, Repr

namespace Config

/-- Default `RAM_SIZE` (R2). -/
def defaultRamSize : Nat := 65536

/-- Largest `RAM_SIZE` (R2): the whole address space. -/
def maxRamSize : Nat := 65536

/-- Default `OUT_ADDR` of the Console Bridge (R4). -/
def defaultOutAddr : Addr := 0xF001#16

/-- Default `STATUS_ADDR` of the Console Bridge (R4). -/
def defaultStatusAddr : Addr := 0xF004#16

/-- Default `DATA_ADDR` of the Console Bridge (R4). -/
def defaultDataAddr : Addr := 0xF005#16

/-- What a read of an address that no device claims and RAM does not cover returns (R51). -/
def openBusByte : Byte := 0xFF#8

/-- Low address of the reset vector (R65, R310). -/
def resetVector : Addr := 0xFFFC#16

/-- Low address of the IRQ/BRK vector (R65, R277). -/
def brkVector : Addr := 0xFFFE#16

/-- SP after reset (R310). -/
def resetSp : Byte := 0xFD#8

/-- P after reset: InterruptDisable and Unused (R310). -/
def resetP : Byte := 0x24#8

/-- `DEC_SBC_INVALID(A, M, C)`: the byte a decimal SBC delivers when the adjusted difference is
outside 0..99 (R171 corner case (e), D18, U2). A free value: no body. Assumption log 6. -/
opaque decSbcInvalid : Byte → Byte → Bool → Byte

/-- What an attached device other than the Console Bridge answers to a bus read: a free function of
the device's identity, of every access it has received so far, and of the address (R33, R54).
A free value: no body. Assumption log 7. -/
opaque deviceRead : Nat → List DeviceAccess → Addr → Byte

end Config
end Sys2Proof
end

