-- ==== Sys2Proof/Syntax.lean ====
section
/-! DEFINITION. The instruction set as syntax: the 56 mnemonics (R94), the 13 addressing modes (R91)
and one constructor of `Instr` per row of spec/opcode_table.json (R95, 151 rows). -/

namespace Sys2Proof

/-- The 56 mnemonics, in the order of R94's table. -/
inductive Mnemonic where
  | lda | ldx | ldy | sta | stx | sty | tax | tay
  | tsx | txa | txs | tya | adc | sbc | and | ora
  | eor | bit | asl | lsr | rol | ror | inc | dec
  | inx | iny | dex | dey | cmp | cpx | cpy | bpl
  | bmi | bvc | bvs | bcc | bcs | bne | beq | jmp
  | jsr | rts | pha | pla | php | plp | clc | sec
  | cli | sei | cld | sed | clv | brk | rti | nop
  deriving DecidableEq, Repr

/-- The thirteen addressing modes (R91, R124 to R136). -/
inductive AddressingMode where
  | implicit | accumulator | immediate
  | zeroPage | zeroPageX | zeroPageY | relative
  | absolute | absoluteX | absoluteY | indirect
  | indexedIndirect | indirectIndexed
  deriving DecidableEq, Repr

/-- Bytes after the opcode (R91). -/
def AddressingMode.operandCount : AddressingMode → Nat
  | .implicit | .accumulator => 0
  | .immediate | .zeroPage | .zeroPageX | .zeroPageY | .relative => 1
  | .indexedIndirect | .indirectIndexed => 1
  | .absolute | .absoluteX | .absoluteY | .indirect => 2

/-- An instruction: one constructor per row of the opcode table. `b` is the operand byte of a
two-byte instruction, `w` the little-endian operand word of a three-byte one (R92); a branch's
`b` is its signed displacement. The names are the mnemonic and the table's addressing mode
(Implicit, Relative and JSR's Absolute, each the mnemonic's only mode, carry no suffix). -/
inductive Instr where
  | ldaImmediate (b : Byte)
  | ldaZeroPage (b : Byte)
  | ldaZeroPageX (b : Byte)
  | ldaAbsolute (w : Addr)
  | ldaAbsoluteX (w : Addr)
  | ldaAbsoluteY (w : Addr)
  | ldaIndexedIndirect (b : Byte)
  | ldaIndirectIndexed (b : Byte)
  | ldxImmediate (b : Byte)
  | ldxZeroPage (b : Byte)
  | ldxZeroPageY (b : Byte)
  | ldxAbsolute (w : Addr)
  | ldxAbsoluteY (w : Addr)
  | ldyImmediate (b : Byte)
  | ldyZeroPage (b : Byte)
  | ldyZeroPageX (b : Byte)
  | ldyAbsolute (w : Addr)
  | ldyAbsoluteX (w : Addr)
  | staZeroPage (b : Byte)
  | staZeroPageX (b : Byte)
  | staAbsolute (w : Addr)
  | staAbsoluteX (w : Addr)
  | staAbsoluteY (w : Addr)
  | staIndexedIndirect (b : Byte)
  | staIndirectIndexed (b : Byte)
  | stxZeroPage (b : Byte)
  | stxZeroPageY (b : Byte)
  | stxAbsolute (w : Addr)
  | styZeroPage (b : Byte)
  | styZeroPageX (b : Byte)
  | styAbsolute (w : Addr)
  | tax
  | tay
  | tsx
  | txa
  | txs
  | tya
  | adcImmediate (b : Byte)
  | adcZeroPage (b : Byte)
  | adcZeroPageX (b : Byte)
  | adcAbsolute (w : Addr)
  | adcAbsoluteX (w : Addr)
  | adcAbsoluteY (w : Addr)
  | adcIndexedIndirect (b : Byte)
  | adcIndirectIndexed (b : Byte)
  | sbcImmediate (b : Byte)
  | sbcZeroPage (b : Byte)
  | sbcZeroPageX (b : Byte)
  | sbcAbsolute (w : Addr)
  | sbcAbsoluteX (w : Addr)
  | sbcAbsoluteY (w : Addr)
  | sbcIndexedIndirect (b : Byte)
  | sbcIndirectIndexed (b : Byte)
  | andImmediate (b : Byte)
  | andZeroPage (b : Byte)
  | andZeroPageX (b : Byte)
  | andAbsolute (w : Addr)
  | andAbsoluteX (w : Addr)
  | andAbsoluteY (w : Addr)
  | andIndexedIndirect (b : Byte)
  | andIndirectIndexed (b : Byte)
  | oraImmediate (b : Byte)
  | oraZeroPage (b : Byte)
  | oraZeroPageX (b : Byte)
  | oraAbsolute (w : Addr)
  | oraAbsoluteX (w : Addr)
  | oraAbsoluteY (w : Addr)
  | oraIndexedIndirect (b : Byte)
  | oraIndirectIndexed (b : Byte)
  | eorImmediate (b : Byte)
  | eorZeroPage (b : Byte)
  | eorZeroPageX (b : Byte)
  | eorAbsolute (w : Addr)
  | eorAbsoluteX (w : Addr)
  | eorAbsoluteY (w : Addr)
  | eorIndexedIndirect (b : Byte)
  | eorIndirectIndexed (b : Byte)
  | bitZeroPage (b : Byte)
  | bitAbsolute (w : Addr)
  | aslAccumulator
  | aslZeroPage (b : Byte)
  | aslZeroPageX (b : Byte)
  | aslAbsolute (w : Addr)
  | aslAbsoluteX (w : Addr)
  | lsrAccumulator
  | lsrZeroPage (b : Byte)
  | lsrZeroPageX (b : Byte)
  | lsrAbsolute (w : Addr)
  | lsrAbsoluteX (w : Addr)
  | rolAccumulator
  | rolZeroPage (b : Byte)
  | rolZeroPageX (b : Byte)
  | rolAbsolute (w : Addr)
  | rolAbsoluteX (w : Addr)
  | rorAccumulator
  | rorZeroPage (b : Byte)
  | rorZeroPageX (b : Byte)
  | rorAbsolute (w : Addr)
  | rorAbsoluteX (w : Addr)
  | incZeroPage (b : Byte)
  | incZeroPageX (b : Byte)
  | incAbsolute (w : Addr)
  | incAbsoluteX (w : Addr)
  | decZeroPage (b : Byte)
  | decZeroPageX (b : Byte)
  | decAbsolute (w : Addr)
  | decAbsoluteX (w : Addr)
  | inx
  | iny
  | dex
  | dey
  | cmpImmediate (b : Byte)
  | cmpZeroPage (b : Byte)
  | cmpZeroPageX (b : Byte)
  | cmpAbsolute (w : Addr)
  | cmpAbsoluteX (w : Addr)
  | cmpAbsoluteY (w : Addr)
  | cmpIndexedIndirect (b : Byte)
  | cmpIndirectIndexed (b : Byte)
  | cpxImmediate (b : Byte)
  | cpxZeroPage (b : Byte)
  | cpxAbsolute (w : Addr)
  | cpyImmediate (b : Byte)
  | cpyZeroPage (b : Byte)
  | cpyAbsolute (w : Addr)
  | bpl (b : Byte)
  | bmi (b : Byte)
  | bvc (b : Byte)
  | bvs (b : Byte)
  | bcc (b : Byte)
  | bcs (b : Byte)
  | bne (b : Byte)
  | beq (b : Byte)
  | jmpAbsolute (w : Addr)
  | jmpIndirect (w : Addr)
  | jsr (w : Addr)
  | rts
  | pha
  | pla
  | php
  | plp
  | clc
  | sec
  | cli
  | sei
  | cld
  | sed
  | clv
  | brk
  | rti
  | nop
  deriving DecidableEq, Repr

/-- The mnemonic of an instruction's row (R95). -/
def Instr.mnemonic : Instr → Mnemonic
  | .ldaImmediate _ | .ldaZeroPage _ | .ldaZeroPageX _ | .ldaAbsolute _ | .ldaAbsoluteX _
  | .ldaAbsoluteY _ | .ldaIndexedIndirect _ | .ldaIndirectIndexed _ => .lda
  | .ldxImmediate _ | .ldxZeroPage _ | .ldxZeroPageY _ | .ldxAbsolute _ | .ldxAbsoluteY _ => .ldx
  | .ldyImmediate _ | .ldyZeroPage _ | .ldyZeroPageX _ | .ldyAbsolute _ | .ldyAbsoluteX _ => .ldy
  | .staZeroPage _ | .staZeroPageX _ | .staAbsolute _ | .staAbsoluteX _ | .staAbsoluteY _
  | .staIndexedIndirect _ | .staIndirectIndexed _ => .sta
  | .stxZeroPage _ | .stxZeroPageY _ | .stxAbsolute _ => .stx
  | .styZeroPage _ | .styZeroPageX _ | .styAbsolute _ => .sty
  | .tax => .tax
  | .tay => .tay
  | .tsx => .tsx
  | .txa => .txa
  | .txs => .txs
  | .tya => .tya
  | .adcImmediate _ | .adcZeroPage _ | .adcZeroPageX _ | .adcAbsolute _ | .adcAbsoluteX _
  | .adcAbsoluteY _ | .adcIndexedIndirect _ | .adcIndirectIndexed _ => .adc
  | .sbcImmediate _ | .sbcZeroPage _ | .sbcZeroPageX _ | .sbcAbsolute _ | .sbcAbsoluteX _
  | .sbcAbsoluteY _ | .sbcIndexedIndirect _ | .sbcIndirectIndexed _ => .sbc
  | .andImmediate _ | .andZeroPage _ | .andZeroPageX _ | .andAbsolute _ | .andAbsoluteX _
  | .andAbsoluteY _ | .andIndexedIndirect _ | .andIndirectIndexed _ => .and
  | .oraImmediate _ | .oraZeroPage _ | .oraZeroPageX _ | .oraAbsolute _ | .oraAbsoluteX _
  | .oraAbsoluteY _ | .oraIndexedIndirect _ | .oraIndirectIndexed _ => .ora
  | .eorImmediate _ | .eorZeroPage _ | .eorZeroPageX _ | .eorAbsolute _ | .eorAbsoluteX _
  | .eorAbsoluteY _ | .eorIndexedIndirect _ | .eorIndirectIndexed _ => .eor
  | .bitZeroPage _ | .bitAbsolute _ => .bit
  | .aslAccumulator | .aslZeroPage _ | .aslZeroPageX _ | .aslAbsolute _ | .aslAbsoluteX _ => .asl
  | .lsrAccumulator | .lsrZeroPage _ | .lsrZeroPageX _ | .lsrAbsolute _ | .lsrAbsoluteX _ => .lsr
  | .rolAccumulator | .rolZeroPage _ | .rolZeroPageX _ | .rolAbsolute _ | .rolAbsoluteX _ => .rol
  | .rorAccumulator | .rorZeroPage _ | .rorZeroPageX _ | .rorAbsolute _ | .rorAbsoluteX _ => .ror
  | .incZeroPage _ | .incZeroPageX _ | .incAbsolute _ | .incAbsoluteX _ => .inc
  | .decZeroPage _ | .decZeroPageX _ | .decAbsolute _ | .decAbsoluteX _ => .dec
  | .inx => .inx
  | .iny => .iny
  | .dex => .dex
  | .dey => .dey
  | .cmpImmediate _ | .cmpZeroPage _ | .cmpZeroPageX _ | .cmpAbsolute _ | .cmpAbsoluteX _
  | .cmpAbsoluteY _ | .cmpIndexedIndirect _ | .cmpIndirectIndexed _ => .cmp
  | .cpxImmediate _ | .cpxZeroPage _ | .cpxAbsolute _ => .cpx
  | .cpyImmediate _ | .cpyZeroPage _ | .cpyAbsolute _ => .cpy
  | .bpl _ => .bpl
  | .bmi _ => .bmi
  | .bvc _ => .bvc
  | .bvs _ => .bvs
  | .bcc _ => .bcc
  | .bcs _ => .bcs
  | .bne _ => .bne
  | .beq _ => .beq
  | .jmpAbsolute _ | .jmpIndirect _ => .jmp
  | .jsr _ => .jsr
  | .rts => .rts
  | .pha => .pha
  | .pla => .pla
  | .php => .php
  | .plp => .plp
  | .clc => .clc
  | .sec => .sec
  | .cli => .cli
  | .sei => .sei
  | .cld => .cld
  | .sed => .sed
  | .clv => .clv
  | .brk => .brk
  | .rti => .rti
  | .nop => .nop

/-- The addressing mode of an instruction's row (R95). -/
def Instr.mode : Instr → AddressingMode
  | .ldaImmediate _ | .ldxImmediate _ | .ldyImmediate _ | .adcImmediate _ | .sbcImmediate _
  | .andImmediate _ | .oraImmediate _ | .eorImmediate _ | .cmpImmediate _ | .cpxImmediate _
  | .cpyImmediate _ => .immediate
  | .ldaZeroPage _ | .ldxZeroPage _ | .ldyZeroPage _ | .staZeroPage _ | .stxZeroPage _
  | .styZeroPage _ | .adcZeroPage _ | .sbcZeroPage _ | .andZeroPage _ | .oraZeroPage _
  | .eorZeroPage _ | .bitZeroPage _ | .aslZeroPage _ | .lsrZeroPage _ | .rolZeroPage _
  | .rorZeroPage _ | .incZeroPage _ | .decZeroPage _ | .cmpZeroPage _ | .cpxZeroPage _
  | .cpyZeroPage _ => .zeroPage
  | .ldaZeroPageX _ | .ldyZeroPageX _ | .staZeroPageX _ | .styZeroPageX _ | .adcZeroPageX _
  | .sbcZeroPageX _ | .andZeroPageX _ | .oraZeroPageX _ | .eorZeroPageX _ | .aslZeroPageX _
  | .lsrZeroPageX _ | .rolZeroPageX _ | .rorZeroPageX _ | .incZeroPageX _ | .decZeroPageX _
  | .cmpZeroPageX _ => .zeroPageX
  | .ldaAbsolute _ | .ldxAbsolute _ | .ldyAbsolute _ | .staAbsolute _ | .stxAbsolute _
  | .styAbsolute _ | .adcAbsolute _ | .sbcAbsolute _ | .andAbsolute _ | .oraAbsolute _
  | .eorAbsolute _ | .bitAbsolute _ | .aslAbsolute _ | .lsrAbsolute _ | .rolAbsolute _
  | .rorAbsolute _ | .incAbsolute _ | .decAbsolute _ | .cmpAbsolute _ | .cpxAbsolute _
  | .cpyAbsolute _ | .jmpAbsolute _ | .jsr _ => .absolute
  | .ldaAbsoluteX _ | .ldyAbsoluteX _ | .staAbsoluteX _ | .adcAbsoluteX _ | .sbcAbsoluteX _
  | .andAbsoluteX _ | .oraAbsoluteX _ | .eorAbsoluteX _ | .aslAbsoluteX _ | .lsrAbsoluteX _
  | .rolAbsoluteX _ | .rorAbsoluteX _ | .incAbsoluteX _ | .decAbsoluteX _ | .cmpAbsoluteX _ => .absoluteX
  | .ldaAbsoluteY _ | .ldxAbsoluteY _ | .staAbsoluteY _ | .adcAbsoluteY _ | .sbcAbsoluteY _
  | .andAbsoluteY _ | .oraAbsoluteY _ | .eorAbsoluteY _ | .cmpAbsoluteY _ => .absoluteY
  | .ldaIndexedIndirect _ | .staIndexedIndirect _ | .adcIndexedIndirect _
  | .sbcIndexedIndirect _ | .andIndexedIndirect _ | .oraIndexedIndirect _
  | .eorIndexedIndirect _ | .cmpIndexedIndirect _ => .indexedIndirect
  | .ldaIndirectIndexed _ | .staIndirectIndexed _ | .adcIndirectIndexed _
  | .sbcIndirectIndexed _ | .andIndirectIndexed _ | .oraIndirectIndexed _
  | .eorIndirectIndexed _ | .cmpIndirectIndexed _ => .indirectIndexed
  | .ldxZeroPageY _ | .stxZeroPageY _ => .zeroPageY
  | .tax | .tay | .tsx | .txa | .txs | .tya | .inx | .iny | .dex | .dey | .rts | .pha | .pla
  | .php | .plp | .clc | .sec | .cli | .sei | .cld | .sed | .clv | .brk | .rti | .nop => .implicit
  | .aslAccumulator | .lsrAccumulator | .rolAccumulator | .rorAccumulator => .accumulator
  | .bpl _ | .bmi _ | .bvc _ | .bvs _ | .bcc _ | .bcs _ | .bne _ | .beq _ => .relative
  | .jmpIndirect _ => .indirect

end Sys2Proof
end

