-- ==== Sys2Proof/WellFormed.lean ====
section
/-! DEFINITION. Well-formedness. Every operand value of a legal opcode is meaningful (R97), so what
can be ill-formed is the pairing of a mnemonic with an addressing mode: "each executor accepts only
the modes R95 pairs it with" (R146, whose guard is `InvalidAddressingMode`). The pairs are written
here from the "Used by" lists of R124 to R136, apart from `Syntax` and the opcode table. -/

namespace Sys2Proof

/-- The mnemonics that use each addressing mode (R124 to R136, "Used by"). -/
def AddressingMode.users : AddressingMode → List Mnemonic
  | .implicit => [.brk, .clc, .cld, .cli, .clv, .dex, .dey, .inx, .iny, .nop, .pha, .php, .pla,
      .plp, .rti, .rts, .sec, .sed, .sei, .tax, .tay, .tsx, .txa, .txs, .tya]
  | .accumulator => [.asl, .lsr, .rol, .ror]
  | .immediate => [.adc, .and, .cmp, .cpx, .cpy, .eor, .lda, .ldx, .ldy, .ora, .sbc]
  | .zeroPage => [.adc, .and, .asl, .bit, .cmp, .cpx, .cpy, .dec, .eor, .inc, .lda, .ldx, .ldy,
      .lsr, .ora, .rol, .ror, .sbc, .sta, .stx, .sty]
  | .zeroPageX => [.adc, .and, .asl, .cmp, .dec, .eor, .inc, .lda, .ldy, .lsr, .ora, .rol,
      .ror, .sbc, .sta, .sty]
  | .zeroPageY => [.ldx, .stx]
  | .relative => [.bcc, .bcs, .beq, .bmi, .bne, .bpl, .bvc, .bvs]
  | .absolute => [.adc, .and, .asl, .bit, .cmp, .cpx, .cpy, .dec, .eor, .inc, .jmp, .jsr, .lda,
      .ldx, .ldy, .lsr, .ora, .rol, .ror, .sbc, .sta, .stx, .sty]
  | .absoluteX => [.adc, .and, .asl, .cmp, .dec, .eor, .inc, .lda, .ldy, .lsr, .ora, .rol,
      .ror, .sbc, .sta]
  | .absoluteY => [.adc, .and, .cmp, .eor, .lda, .ldx, .ora, .sbc, .sta]
  | .indirect => [.jmp]
  | .indexedIndirect => [.adc, .and, .cmp, .eor, .lda, .ora, .sbc, .sta]
  | .indirectIndexed => [.adc, .and, .cmp, .eor, .lda, .ora, .sbc, .sta]

/-- The pair is one the dispatch table may hold (R95, R146); the guard `InvalidAddressingMode` is
its negation. -/
def pairAllowed (m : Mnemonic) (md : AddressingMode) : Bool := md.users.contains m

/-- An instruction is well-formed when its mnemonic accepts its mode. No operand value is ill-formed
(R97), and no constructor of `Instr` spells a forbidden pair: `Laws/Syntax.lean` proves the check of
every instruction, as R146 says ("unreachable with the table of rule R95"). -/
def Instr.wellFormed (i : Instr) : Bool := pairAllowed i.mnemonic i.mode

end Sys2Proof
end

