-- ==== Sys2Proof/Decode.lean ====
section
/-! DEFINITION. The dispatch table (R35, R95: 151 of 256 opcode bytes), the decoder over any bytes,
and the encoder. Decoding is a lookup of the opcode byte and nothing else (R93); operand words are
little-endian (R61, R92). -/

namespace Sys2Proof
open Sys2Proof.Machine

/-- The operand bytes a dispatch entry takes, with the instruction they make (formats F1, F2, F3 of
R90). -/
inductive OperandShape where
  | implied (i : Instr)
  | byte (mk : Byte → Instr)
  | word (mk : Addr → Instr)

/-- Operand bytes of a shape (R91). -/
def OperandShape.count : OperandShape → Nat
  | .implied _ => 0
  | .byte _ => 1
  | .word _ => 2

/-- One entry of the dispatch table (R35): mnemonic, addressing mode, the instruction it makes of its
operand bytes, base cycle count, page-cross adder, branch adder. -/
structure DispatchEntry where
  opcode : Byte
  mnemonic : Mnemonic
  mode : AddressingMode
  shape : OperandShape
  baseCycles : Nat
  pageCrossAdder : Bool
  branchAdder : Bool

/-- Loads (R150 to R152), rows of R95 and spec/opcode_table.json. -/
def loadRows : List DispatchEntry := [
  ⟨0xA9#8, .lda, .immediate, .byte .ldaImmediate, 2, false, false⟩,
  ⟨0xA5#8, .lda, .zeroPage, .byte .ldaZeroPage, 3, false, false⟩,
  ⟨0xB5#8, .lda, .zeroPageX, .byte .ldaZeroPageX, 4, false, false⟩,
  ⟨0xAD#8, .lda, .absolute, .word .ldaAbsolute, 4, false, false⟩,
  ⟨0xBD#8, .lda, .absoluteX, .word .ldaAbsoluteX, 4, true, false⟩,
  ⟨0xB9#8, .lda, .absoluteY, .word .ldaAbsoluteY, 4, true, false⟩,
  ⟨0xA1#8, .lda, .indexedIndirect, .byte .ldaIndexedIndirect, 6, false, false⟩,
  ⟨0xB1#8, .lda, .indirectIndexed, .byte .ldaIndirectIndexed, 5, true, false⟩,
  ⟨0xA2#8, .ldx, .immediate, .byte .ldxImmediate, 2, false, false⟩,
  ⟨0xA6#8, .ldx, .zeroPage, .byte .ldxZeroPage, 3, false, false⟩,
  ⟨0xB6#8, .ldx, .zeroPageY, .byte .ldxZeroPageY, 4, false, false⟩,
  ⟨0xAE#8, .ldx, .absolute, .word .ldxAbsolute, 4, false, false⟩,
  ⟨0xBE#8, .ldx, .absoluteY, .word .ldxAbsoluteY, 4, true, false⟩,
  ⟨0xA0#8, .ldy, .immediate, .byte .ldyImmediate, 2, false, false⟩,
  ⟨0xA4#8, .ldy, .zeroPage, .byte .ldyZeroPage, 3, false, false⟩,
  ⟨0xB4#8, .ldy, .zeroPageX, .byte .ldyZeroPageX, 4, false, false⟩,
  ⟨0xAC#8, .ldy, .absolute, .word .ldyAbsolute, 4, false, false⟩,
  ⟨0xBC#8, .ldy, .absoluteX, .word .ldyAbsoluteX, 4, true, false⟩]

/-- Stores and transfers (R153 to R161), rows of R95 and spec/opcode_table.json. -/
def storeTransferRows : List DispatchEntry := [
  ⟨0x85#8, .sta, .zeroPage, .byte .staZeroPage, 3, false, false⟩,
  ⟨0x95#8, .sta, .zeroPageX, .byte .staZeroPageX, 4, false, false⟩,
  ⟨0x8D#8, .sta, .absolute, .word .staAbsolute, 4, false, false⟩,
  ⟨0x9D#8, .sta, .absoluteX, .word .staAbsoluteX, 5, false, false⟩,
  ⟨0x99#8, .sta, .absoluteY, .word .staAbsoluteY, 5, false, false⟩,
  ⟨0x81#8, .sta, .indexedIndirect, .byte .staIndexedIndirect, 6, false, false⟩,
  ⟨0x91#8, .sta, .indirectIndexed, .byte .staIndirectIndexed, 6, false, false⟩,
  ⟨0x86#8, .stx, .zeroPage, .byte .stxZeroPage, 3, false, false⟩,
  ⟨0x96#8, .stx, .zeroPageY, .byte .stxZeroPageY, 4, false, false⟩,
  ⟨0x8E#8, .stx, .absolute, .word .stxAbsolute, 4, false, false⟩,
  ⟨0x84#8, .sty, .zeroPage, .byte .styZeroPage, 3, false, false⟩,
  ⟨0x94#8, .sty, .zeroPageX, .byte .styZeroPageX, 4, false, false⟩,
  ⟨0x8C#8, .sty, .absolute, .word .styAbsolute, 4, false, false⟩,
  ⟨0xAA#8, .tax, .implicit, .implied .tax, 2, false, false⟩,
  ⟨0xA8#8, .tay, .implicit, .implied .tay, 2, false, false⟩,
  ⟨0xBA#8, .tsx, .implicit, .implied .tsx, 2, false, false⟩,
  ⟨0x8A#8, .txa, .implicit, .implied .txa, 2, false, false⟩,
  ⟨0x9A#8, .txs, .implicit, .implied .txs, 2, false, false⟩,
  ⟨0x98#8, .tya, .implicit, .implied .tya, 2, false, false⟩]

/-- ADC and SBC (R170, R171), rows of R95 and spec/opcode_table.json. -/
def arithmeticRows : List DispatchEntry := [
  ⟨0x69#8, .adc, .immediate, .byte .adcImmediate, 2, false, false⟩,
  ⟨0x65#8, .adc, .zeroPage, .byte .adcZeroPage, 3, false, false⟩,
  ⟨0x75#8, .adc, .zeroPageX, .byte .adcZeroPageX, 4, false, false⟩,
  ⟨0x6D#8, .adc, .absolute, .word .adcAbsolute, 4, false, false⟩,
  ⟨0x7D#8, .adc, .absoluteX, .word .adcAbsoluteX, 4, true, false⟩,
  ⟨0x79#8, .adc, .absoluteY, .word .adcAbsoluteY, 4, true, false⟩,
  ⟨0x61#8, .adc, .indexedIndirect, .byte .adcIndexedIndirect, 6, false, false⟩,
  ⟨0x71#8, .adc, .indirectIndexed, .byte .adcIndirectIndexed, 5, true, false⟩,
  ⟨0xE9#8, .sbc, .immediate, .byte .sbcImmediate, 2, false, false⟩,
  ⟨0xE5#8, .sbc, .zeroPage, .byte .sbcZeroPage, 3, false, false⟩,
  ⟨0xF5#8, .sbc, .zeroPageX, .byte .sbcZeroPageX, 4, false, false⟩,
  ⟨0xED#8, .sbc, .absolute, .word .sbcAbsolute, 4, false, false⟩,
  ⟨0xFD#8, .sbc, .absoluteX, .word .sbcAbsoluteX, 4, true, false⟩,
  ⟨0xF9#8, .sbc, .absoluteY, .word .sbcAbsoluteY, 4, true, false⟩,
  ⟨0xE1#8, .sbc, .indexedIndirect, .byte .sbcIndexedIndirect, 6, false, false⟩,
  ⟨0xF1#8, .sbc, .indirectIndexed, .byte .sbcIndirectIndexed, 5, true, false⟩]

/-- AND, ORA, EOR, BIT (R180 to R183), rows of R95 and spec/opcode_table.json. -/
def logicRows : List DispatchEntry := [
  ⟨0x29#8, .and, .immediate, .byte .andImmediate, 2, false, false⟩,
  ⟨0x25#8, .and, .zeroPage, .byte .andZeroPage, 3, false, false⟩,
  ⟨0x35#8, .and, .zeroPageX, .byte .andZeroPageX, 4, false, false⟩,
  ⟨0x2D#8, .and, .absolute, .word .andAbsolute, 4, false, false⟩,
  ⟨0x3D#8, .and, .absoluteX, .word .andAbsoluteX, 4, true, false⟩,
  ⟨0x39#8, .and, .absoluteY, .word .andAbsoluteY, 4, true, false⟩,
  ⟨0x21#8, .and, .indexedIndirect, .byte .andIndexedIndirect, 6, false, false⟩,
  ⟨0x31#8, .and, .indirectIndexed, .byte .andIndirectIndexed, 5, true, false⟩,
  ⟨0x09#8, .ora, .immediate, .byte .oraImmediate, 2, false, false⟩,
  ⟨0x05#8, .ora, .zeroPage, .byte .oraZeroPage, 3, false, false⟩,
  ⟨0x15#8, .ora, .zeroPageX, .byte .oraZeroPageX, 4, false, false⟩,
  ⟨0x0D#8, .ora, .absolute, .word .oraAbsolute, 4, false, false⟩,
  ⟨0x1D#8, .ora, .absoluteX, .word .oraAbsoluteX, 4, true, false⟩,
  ⟨0x19#8, .ora, .absoluteY, .word .oraAbsoluteY, 4, true, false⟩,
  ⟨0x01#8, .ora, .indexedIndirect, .byte .oraIndexedIndirect, 6, false, false⟩,
  ⟨0x11#8, .ora, .indirectIndexed, .byte .oraIndirectIndexed, 5, true, false⟩,
  ⟨0x49#8, .eor, .immediate, .byte .eorImmediate, 2, false, false⟩,
  ⟨0x45#8, .eor, .zeroPage, .byte .eorZeroPage, 3, false, false⟩,
  ⟨0x55#8, .eor, .zeroPageX, .byte .eorZeroPageX, 4, false, false⟩,
  ⟨0x4D#8, .eor, .absolute, .word .eorAbsolute, 4, false, false⟩,
  ⟨0x5D#8, .eor, .absoluteX, .word .eorAbsoluteX, 4, true, false⟩,
  ⟨0x59#8, .eor, .absoluteY, .word .eorAbsoluteY, 4, true, false⟩,
  ⟨0x41#8, .eor, .indexedIndirect, .byte .eorIndexedIndirect, 6, false, false⟩,
  ⟨0x51#8, .eor, .indirectIndexed, .byte .eorIndirectIndexed, 5, true, false⟩,
  ⟨0x24#8, .bit, .zeroPage, .byte .bitZeroPage, 3, false, false⟩,
  ⟨0x2C#8, .bit, .absolute, .word .bitAbsolute, 4, false, false⟩]

/-- Shifts and rotates (R190 to R193), rows of R95 and spec/opcode_table.json. -/
def shiftRows : List DispatchEntry := [
  ⟨0x0A#8, .asl, .accumulator, .implied .aslAccumulator, 2, false, false⟩,
  ⟨0x06#8, .asl, .zeroPage, .byte .aslZeroPage, 5, false, false⟩,
  ⟨0x16#8, .asl, .zeroPageX, .byte .aslZeroPageX, 6, false, false⟩,
  ⟨0x0E#8, .asl, .absolute, .word .aslAbsolute, 6, false, false⟩,
  ⟨0x1E#8, .asl, .absoluteX, .word .aslAbsoluteX, 7, false, false⟩,
  ⟨0x4A#8, .lsr, .accumulator, .implied .lsrAccumulator, 2, false, false⟩,
  ⟨0x46#8, .lsr, .zeroPage, .byte .lsrZeroPage, 5, false, false⟩,
  ⟨0x56#8, .lsr, .zeroPageX, .byte .lsrZeroPageX, 6, false, false⟩,
  ⟨0x4E#8, .lsr, .absolute, .word .lsrAbsolute, 6, false, false⟩,
  ⟨0x5E#8, .lsr, .absoluteX, .word .lsrAbsoluteX, 7, false, false⟩,
  ⟨0x2A#8, .rol, .accumulator, .implied .rolAccumulator, 2, false, false⟩,
  ⟨0x26#8, .rol, .zeroPage, .byte .rolZeroPage, 5, false, false⟩,
  ⟨0x36#8, .rol, .zeroPageX, .byte .rolZeroPageX, 6, false, false⟩,
  ⟨0x2E#8, .rol, .absolute, .word .rolAbsolute, 6, false, false⟩,
  ⟨0x3E#8, .rol, .absoluteX, .word .rolAbsoluteX, 7, false, false⟩,
  ⟨0x6A#8, .ror, .accumulator, .implied .rorAccumulator, 2, false, false⟩,
  ⟨0x66#8, .ror, .zeroPage, .byte .rorZeroPage, 5, false, false⟩,
  ⟨0x76#8, .ror, .zeroPageX, .byte .rorZeroPageX, 6, false, false⟩,
  ⟨0x6E#8, .ror, .absolute, .word .rorAbsolute, 6, false, false⟩,
  ⟨0x7E#8, .ror, .absoluteX, .word .rorAbsoluteX, 7, false, false⟩]

/-- Increments, decrements, compares (R200 to R208), rows of R95 and spec/opcode_table.json. -/
def incDecCompareRows : List DispatchEntry := [
  ⟨0xE6#8, .inc, .zeroPage, .byte .incZeroPage, 5, false, false⟩,
  ⟨0xF6#8, .inc, .zeroPageX, .byte .incZeroPageX, 6, false, false⟩,
  ⟨0xEE#8, .inc, .absolute, .word .incAbsolute, 6, false, false⟩,
  ⟨0xFE#8, .inc, .absoluteX, .word .incAbsoluteX, 7, false, false⟩,
  ⟨0xC6#8, .dec, .zeroPage, .byte .decZeroPage, 5, false, false⟩,
  ⟨0xD6#8, .dec, .zeroPageX, .byte .decZeroPageX, 6, false, false⟩,
  ⟨0xCE#8, .dec, .absolute, .word .decAbsolute, 6, false, false⟩,
  ⟨0xDE#8, .dec, .absoluteX, .word .decAbsoluteX, 7, false, false⟩,
  ⟨0xE8#8, .inx, .implicit, .implied .inx, 2, false, false⟩,
  ⟨0xC8#8, .iny, .implicit, .implied .iny, 2, false, false⟩,
  ⟨0xCA#8, .dex, .implicit, .implied .dex, 2, false, false⟩,
  ⟨0x88#8, .dey, .implicit, .implied .dey, 2, false, false⟩,
  ⟨0xC9#8, .cmp, .immediate, .byte .cmpImmediate, 2, false, false⟩,
  ⟨0xC5#8, .cmp, .zeroPage, .byte .cmpZeroPage, 3, false, false⟩,
  ⟨0xD5#8, .cmp, .zeroPageX, .byte .cmpZeroPageX, 4, false, false⟩,
  ⟨0xCD#8, .cmp, .absolute, .word .cmpAbsolute, 4, false, false⟩,
  ⟨0xDD#8, .cmp, .absoluteX, .word .cmpAbsoluteX, 4, true, false⟩,
  ⟨0xD9#8, .cmp, .absoluteY, .word .cmpAbsoluteY, 4, true, false⟩,
  ⟨0xC1#8, .cmp, .indexedIndirect, .byte .cmpIndexedIndirect, 6, false, false⟩,
  ⟨0xD1#8, .cmp, .indirectIndexed, .byte .cmpIndirectIndexed, 5, true, false⟩,
  ⟨0xE0#8, .cpx, .immediate, .byte .cpxImmediate, 2, false, false⟩,
  ⟨0xE4#8, .cpx, .zeroPage, .byte .cpxZeroPage, 3, false, false⟩,
  ⟨0xEC#8, .cpx, .absolute, .word .cpxAbsolute, 4, false, false⟩,
  ⟨0xC0#8, .cpy, .immediate, .byte .cpyImmediate, 2, false, false⟩,
  ⟨0xC4#8, .cpy, .zeroPage, .byte .cpyZeroPage, 3, false, false⟩,
  ⟨0xCC#8, .cpy, .absolute, .word .cpyAbsolute, 4, false, false⟩]

/-- Branches, jumps, call and return (R216 to R226), rows of R95 and spec/opcode_table.json. -/
def controlRows : List DispatchEntry := [
  ⟨0x10#8, .bpl, .relative, .byte .bpl, 2, false, true⟩,
  ⟨0x30#8, .bmi, .relative, .byte .bmi, 2, false, true⟩,
  ⟨0x50#8, .bvc, .relative, .byte .bvc, 2, false, true⟩,
  ⟨0x70#8, .bvs, .relative, .byte .bvs, 2, false, true⟩,
  ⟨0x90#8, .bcc, .relative, .byte .bcc, 2, false, true⟩,
  ⟨0xB0#8, .bcs, .relative, .byte .bcs, 2, false, true⟩,
  ⟨0xD0#8, .bne, .relative, .byte .bne, 2, false, true⟩,
  ⟨0xF0#8, .beq, .relative, .byte .beq, 2, false, true⟩,
  ⟨0x4C#8, .jmp, .absolute, .word .jmpAbsolute, 3, false, false⟩,
  ⟨0x6C#8, .jmp, .indirect, .word .jmpIndirect, 5, false, false⟩,
  ⟨0x20#8, .jsr, .absolute, .word .jsr, 6, false, false⟩,
  ⟨0x60#8, .rts, .implicit, .implied .rts, 6, false, false⟩]

/-- Stack, status flags, BRK, RTI, NOP (R235 to R257), rows of R95 and spec/opcode_table.json. -/
def stackStatusRows : List DispatchEntry := [
  ⟨0x48#8, .pha, .implicit, .implied .pha, 3, false, false⟩,
  ⟨0x68#8, .pla, .implicit, .implied .pla, 4, false, false⟩,
  ⟨0x08#8, .php, .implicit, .implied .php, 3, false, false⟩,
  ⟨0x28#8, .plp, .implicit, .implied .plp, 4, false, false⟩,
  ⟨0x18#8, .clc, .implicit, .implied .clc, 2, false, false⟩,
  ⟨0x38#8, .sec, .implicit, .implied .sec, 2, false, false⟩,
  ⟨0x58#8, .cli, .implicit, .implied .cli, 2, false, false⟩,
  ⟨0x78#8, .sei, .implicit, .implied .sei, 2, false, false⟩,
  ⟨0xD8#8, .cld, .implicit, .implied .cld, 2, false, false⟩,
  ⟨0xF8#8, .sed, .implicit, .implied .sed, 2, false, false⟩,
  ⟨0xB8#8, .clv, .implicit, .implied .clv, 2, false, false⟩,
  ⟨0x00#8, .brk, .implicit, .implied .brk, 7, false, false⟩,
  ⟨0x40#8, .rti, .implicit, .implied .rti, 6, false, false⟩,
  ⟨0xEA#8, .nop, .implicit, .implied .nop, 2, false, false⟩]

/-- The dispatch table: every legal opcode byte, once (R95). -/
def dispatchTable : List DispatchEntry :=
  loadRows ++ storeTransferRows ++ arithmeticRows ++ logicRows ++ shiftRows ++ incDecCompareRows ++
    controlRows ++ stackStatusRows

/-- `DISPATCH[op]` (R93, R120): the entry of an opcode byte, or none for the illegal sentinel
(R96). -/
def dispatch (op : Byte) : Option DispatchEntry := dispatchTable.find? (fun e => e.opcode == op)

/-- Why bytes are not an instruction. -/
inductive DecodeError where
  /-- The first byte is one of the 105 illegal opcodes (R96). -/
  | illegalOpcode (op : Byte)
  /-- The list ends before the operand bytes the opcode needs: a matter of a byte list, which the
  machine never meets, since it fetches each byte from the bus (R121). -/
  | operandMissing (op : Byte)
  /-- There is no byte at all. -/
  | noOpcode
  deriving DecidableEq, Repr

/-- An entry's instruction from the bytes after the opcode, with the bytes left over (R92). -/
def assemble (e : DispatchEntry) (rest : List Byte) : Except DecodeError (Instr × List Byte) :=
  match e.shape, rest with
  | .implied i, rest => .ok (i, rest)
  | .byte mk, b :: rest => .ok (mk b, rest)
  | .byte _, [] => .error (.operandMissing e.opcode)
  | .word mk, lo :: hi :: rest => .ok (mk (mkWord hi lo), rest)
  | .word _, [_] => .error (.operandMissing e.opcode)
  | .word _, [] => .error (.operandMissing e.opcode)

/-- The decoder: the instruction at the head of the bytes, in the order the hardware stores them, and
the bytes left over. -/
def decode : List Byte → Except DecodeError (Instr × List Byte)
  | [] => .error .noOpcode
  | op :: rest =>
    match dispatch op with
    | none => .error (.illegalOpcode op)
    | some e => assemble e rest

/-- The bytes of a table word: bit 0 is the least significant bit of the first byte; every bit from
`nbits` on is 0; three bytes are the longest instruction (R91). -/
def tableWordBytes (nbits w : Nat) : List Byte :=
  let v := w % 2 ^ nbits
  [BitVec.ofNat 8 v, BitVec.ofNat 8 (v / 256), BitVec.ofNat 8 (v / 65536)]

/-- The instruction the decoder reads from a word numbered as the opcode table numbers it. -/
def decodeTableWord (nbits w : Nat) : Option Instr :=
  match decode (tableWordBytes nbits w) with
  | .ok (i, _) => some i
  | .error _ => none

/-- The opcode byte of an instruction: the "Encodings" lines of R150 to R257. -/
def Instr.opcode : Instr → Byte
  | .ldaImmediate _ => 0xA9#8
  | .ldaZeroPage _ => 0xA5#8
  | .ldaZeroPageX _ => 0xB5#8
  | .ldaAbsolute _ => 0xAD#8
  | .ldaAbsoluteX _ => 0xBD#8
  | .ldaAbsoluteY _ => 0xB9#8
  | .ldaIndexedIndirect _ => 0xA1#8
  | .ldaIndirectIndexed _ => 0xB1#8
  | .ldxImmediate _ => 0xA2#8
  | .ldxZeroPage _ => 0xA6#8
  | .ldxZeroPageY _ => 0xB6#8
  | .ldxAbsolute _ => 0xAE#8
  | .ldxAbsoluteY _ => 0xBE#8
  | .ldyImmediate _ => 0xA0#8
  | .ldyZeroPage _ => 0xA4#8
  | .ldyZeroPageX _ => 0xB4#8
  | .ldyAbsolute _ => 0xAC#8
  | .ldyAbsoluteX _ => 0xBC#8
  | .staZeroPage _ => 0x85#8
  | .staZeroPageX _ => 0x95#8
  | .staAbsolute _ => 0x8D#8
  | .staAbsoluteX _ => 0x9D#8
  | .staAbsoluteY _ => 0x99#8
  | .staIndexedIndirect _ => 0x81#8
  | .staIndirectIndexed _ => 0x91#8
  | .stxZeroPage _ => 0x86#8
  | .stxZeroPageY _ => 0x96#8
  | .stxAbsolute _ => 0x8E#8
  | .styZeroPage _ => 0x84#8
  | .styZeroPageX _ => 0x94#8
  | .styAbsolute _ => 0x8C#8
  | .tax => 0xAA#8
  | .tay => 0xA8#8
  | .tsx => 0xBA#8
  | .txa => 0x8A#8
  | .txs => 0x9A#8
  | .tya => 0x98#8
  | .adcImmediate _ => 0x69#8
  | .adcZeroPage _ => 0x65#8
  | .adcZeroPageX _ => 0x75#8
  | .adcAbsolute _ => 0x6D#8
  | .adcAbsoluteX _ => 0x7D#8
  | .adcAbsoluteY _ => 0x79#8
  | .adcIndexedIndirect _ => 0x61#8
  | .adcIndirectIndexed _ => 0x71#8
  | .sbcImmediate _ => 0xE9#8
  | .sbcZeroPage _ => 0xE5#8
  | .sbcZeroPageX _ => 0xF5#8
  | .sbcAbsolute _ => 0xED#8
  | .sbcAbsoluteX _ => 0xFD#8
  | .sbcAbsoluteY _ => 0xF9#8
  | .sbcIndexedIndirect _ => 0xE1#8
  | .sbcIndirectIndexed _ => 0xF1#8
  | .andImmediate _ => 0x29#8
  | .andZeroPage _ => 0x25#8
  | .andZeroPageX _ => 0x35#8
  | .andAbsolute _ => 0x2D#8
  | .andAbsoluteX _ => 0x3D#8
  | .andAbsoluteY _ => 0x39#8
  | .andIndexedIndirect _ => 0x21#8
  | .andIndirectIndexed _ => 0x31#8
  | .oraImmediate _ => 0x09#8
  | .oraZeroPage _ => 0x05#8
  | .oraZeroPageX _ => 0x15#8
  | .oraAbsolute _ => 0x0D#8
  | .oraAbsoluteX _ => 0x1D#8
  | .oraAbsoluteY _ => 0x19#8
  | .oraIndexedIndirect _ => 0x01#8
  | .oraIndirectIndexed _ => 0x11#8
  | .eorImmediate _ => 0x49#8
  | .eorZeroPage _ => 0x45#8
  | .eorZeroPageX _ => 0x55#8
  | .eorAbsolute _ => 0x4D#8
  | .eorAbsoluteX _ => 0x5D#8
  | .eorAbsoluteY _ => 0x59#8
  | .eorIndexedIndirect _ => 0x41#8
  | .eorIndirectIndexed _ => 0x51#8
  | .bitZeroPage _ => 0x24#8
  | .bitAbsolute _ => 0x2C#8
  | .aslAccumulator => 0x0A#8
  | .aslZeroPage _ => 0x06#8
  | .aslZeroPageX _ => 0x16#8
  | .aslAbsolute _ => 0x0E#8
  | .aslAbsoluteX _ => 0x1E#8
  | .lsrAccumulator => 0x4A#8
  | .lsrZeroPage _ => 0x46#8
  | .lsrZeroPageX _ => 0x56#8
  | .lsrAbsolute _ => 0x4E#8
  | .lsrAbsoluteX _ => 0x5E#8
  | .rolAccumulator => 0x2A#8
  | .rolZeroPage _ => 0x26#8
  | .rolZeroPageX _ => 0x36#8
  | .rolAbsolute _ => 0x2E#8
  | .rolAbsoluteX _ => 0x3E#8
  | .rorAccumulator => 0x6A#8
  | .rorZeroPage _ => 0x66#8
  | .rorZeroPageX _ => 0x76#8
  | .rorAbsolute _ => 0x6E#8
  | .rorAbsoluteX _ => 0x7E#8
  | .incZeroPage _ => 0xE6#8
  | .incZeroPageX _ => 0xF6#8
  | .incAbsolute _ => 0xEE#8
  | .incAbsoluteX _ => 0xFE#8
  | .decZeroPage _ => 0xC6#8
  | .decZeroPageX _ => 0xD6#8
  | .decAbsolute _ => 0xCE#8
  | .decAbsoluteX _ => 0xDE#8
  | .inx => 0xE8#8
  | .iny => 0xC8#8
  | .dex => 0xCA#8
  | .dey => 0x88#8
  | .cmpImmediate _ => 0xC9#8
  | .cmpZeroPage _ => 0xC5#8
  | .cmpZeroPageX _ => 0xD5#8
  | .cmpAbsolute _ => 0xCD#8
  | .cmpAbsoluteX _ => 0xDD#8
  | .cmpAbsoluteY _ => 0xD9#8
  | .cmpIndexedIndirect _ => 0xC1#8
  | .cmpIndirectIndexed _ => 0xD1#8
  | .cpxImmediate _ => 0xE0#8
  | .cpxZeroPage _ => 0xE4#8
  | .cpxAbsolute _ => 0xEC#8
  | .cpyImmediate _ => 0xC0#8
  | .cpyZeroPage _ => 0xC4#8
  | .cpyAbsolute _ => 0xCC#8
  | .bpl _ => 0x10#8
  | .bmi _ => 0x30#8
  | .bvc _ => 0x50#8
  | .bvs _ => 0x70#8
  | .bcc _ => 0x90#8
  | .bcs _ => 0xB0#8
  | .bne _ => 0xD0#8
  | .beq _ => 0xF0#8
  | .jmpAbsolute _ => 0x4C#8
  | .jmpIndirect _ => 0x6C#8
  | .jsr _ => 0x20#8
  | .rts => 0x60#8
  | .pha => 0x48#8
  | .pla => 0x68#8
  | .php => 0x08#8
  | .plp => 0x28#8
  | .clc => 0x18#8
  | .sec => 0x38#8
  | .cli => 0x58#8
  | .sei => 0x78#8
  | .cld => 0xD8#8
  | .sed => 0xF8#8
  | .clv => 0xB8#8
  | .brk => 0x00#8
  | .rti => 0x40#8
  | .nop => 0xEA#8

/-- The operand bytes of an instruction in ascending address order, low byte first (R90, R92). -/
def Instr.operandBytes : Instr → List Byte
  | .tax | .tay | .tsx | .txa | .txs | .tya | .aslAccumulator | .lsrAccumulator
  | .rolAccumulator | .rorAccumulator | .inx | .iny | .dex | .dey | .rts | .pha | .pla | .php
  | .plp | .clc | .sec | .cli | .sei | .cld | .sed | .clv | .brk | .rti | .nop =>
    []
  | .ldaImmediate b | .ldaZeroPage b | .ldaZeroPageX b | .ldaIndexedIndirect b
  | .ldaIndirectIndexed b | .ldxImmediate b | .ldxZeroPage b | .ldxZeroPageY b | .ldyImmediate b
  | .ldyZeroPage b | .ldyZeroPageX b | .staZeroPage b | .staZeroPageX b | .staIndexedIndirect b
  | .staIndirectIndexed b | .stxZeroPage b | .stxZeroPageY b | .styZeroPage b | .styZeroPageX b
  | .adcImmediate b | .adcZeroPage b | .adcZeroPageX b | .adcIndexedIndirect b
  | .adcIndirectIndexed b | .sbcImmediate b | .sbcZeroPage b | .sbcZeroPageX b
  | .sbcIndexedIndirect b | .sbcIndirectIndexed b | .andImmediate b | .andZeroPage b
  | .andZeroPageX b | .andIndexedIndirect b | .andIndirectIndexed b | .oraImmediate b
  | .oraZeroPage b | .oraZeroPageX b | .oraIndexedIndirect b | .oraIndirectIndexed b
  | .eorImmediate b | .eorZeroPage b | .eorZeroPageX b | .eorIndexedIndirect b
  | .eorIndirectIndexed b | .bitZeroPage b | .aslZeroPage b | .aslZeroPageX b | .lsrZeroPage b
  | .lsrZeroPageX b | .rolZeroPage b | .rolZeroPageX b | .rorZeroPage b | .rorZeroPageX b
  | .incZeroPage b | .incZeroPageX b | .decZeroPage b | .decZeroPageX b | .cmpImmediate b
  | .cmpZeroPage b | .cmpZeroPageX b | .cmpIndexedIndirect b | .cmpIndirectIndexed b
  | .cpxImmediate b | .cpxZeroPage b | .cpyImmediate b | .cpyZeroPage b | .bpl b | .bmi b
  | .bvc b | .bvs b | .bcc b | .bcs b | .bne b | .beq b =>
    [b]
  | .ldaAbsolute w | .ldaAbsoluteX w | .ldaAbsoluteY w | .ldxAbsolute w | .ldxAbsoluteY w
  | .ldyAbsolute w | .ldyAbsoluteX w | .staAbsolute w | .staAbsoluteX w | .staAbsoluteY w
  | .stxAbsolute w | .styAbsolute w | .adcAbsolute w | .adcAbsoluteX w | .adcAbsoluteY w
  | .sbcAbsolute w | .sbcAbsoluteX w | .sbcAbsoluteY w | .andAbsolute w | .andAbsoluteX w
  | .andAbsoluteY w | .oraAbsolute w | .oraAbsoluteX w | .oraAbsoluteY w | .eorAbsolute w
  | .eorAbsoluteX w | .eorAbsoluteY w | .bitAbsolute w | .aslAbsolute w | .aslAbsoluteX w
  | .lsrAbsolute w | .lsrAbsoluteX w | .rolAbsolute w | .rolAbsoluteX w | .rorAbsolute w
  | .rorAbsoluteX w | .incAbsolute w | .incAbsoluteX w | .decAbsolute w | .decAbsoluteX w
  | .cmpAbsolute w | .cmpAbsoluteX w | .cmpAbsoluteY w | .cpxAbsolute w | .cpyAbsolute w
  | .jmpAbsolute w | .jmpIndirect w | .jsr w =>
    [loByte w, hiByte w]

/-- The bytes of an instruction as the hardware stores them (R90). -/
def encode (i : Instr) : List Byte := i.opcode :: i.operandBytes

end Sys2Proof
end

