-- ==== Sys2Proof/Machine/State.lean ====
section
/-! DEFINITION. The state of the machine as plain data (spec/10_state.md: six registers, two transient
booleans, RAM, the ordered device list and each device's state), the reasons a step can stop, and the
state after reset. -/

namespace Sys2Proof.Machine

/-- What a RAM byte that is not listed in a `Memory` holds. DESIGN CHOICE (assumption log 1): the
spec leaves RAM_INIT open (R5); a RAM of other contents is a `Memory` that lists its non-zero
bytes. -/
abbrev unlistedByte : Byte := 0x00#8

/-- RAM contents (R31): the bytes that are not `unlistedByte`, by strictly rising address. -/
abbrev Memory := List Host.Cell

/-- The Console Bridge (R290, R291): its three configured addresses, the input FIFO (oldest byte
first) and the output sink (first byte written first). `arrivals` and `fallback` are the model's own
fields: the input from outside that the bridge has not seen yet. -/
structure Bridge where
  outAddr : Addr
  statusAddr : Addr
  dataAddr : Addr
  fifo : List Byte
  sink : List Byte
  /-- The bytes that the asynchronous producer appends to the FIFO before each of the next bridge
  reads (R296, C7). DESIGN CHOICE (assumption log 8). -/
  arrivals : List (List Byte)
  /-- What `FALLBACK_INPUT` answers to its next consultations; exhausted, it reports nothing available
  (R294, D15). DESIGN CHOICE (assumption log 9). -/
  fallback : List (Option Byte)
  deriving DecidableEq, Repr

/-- Any other device (R33, R54): who it is, the addresses its `handles` claims (a fixed set, D5), and
every access it has received, oldest first; its hidden state is whatever function of these it likes.
DESIGN CHOICE (assumption log 7). -/
structure OtherDevice where
  id : Nat
  claims : List Addr
  history : List DeviceAccess
  deriving DecidableEq, Repr

/-- An attached device (R3). -/
inductive Device where
  | console (b : Bridge)
  | other (d : OtherDevice)
  deriving DecidableEq, Repr

/-- The memory bus (R50 to R53): RAM_SIZE, fixed at construction (R2), the RAM, and the devices in
attachment order (R3, R32). -/
structure Bus where
  ramSize : Nat
  mem : Memory
  devices : List Device
  deriving DecidableEq, Repr

/-- The whole machine state. -/
structure State where
  /-- The accumulator (R20). -/
  a : Byte
  /-- Index register X (R20). -/
  x : Byte
  /-- Index register Y (R20). -/
  y : Byte
  /-- The stack pointer, an offset into page 1 (R21). -/
  sp : Byte
  /-- The processor status (R24, R25). -/
  p : Byte
  /-- The program counter (R22). -/
  pc : Addr
  /-- Transient: an address computation of this step crossed a page (R30). -/
  pageCrossed : Bool
  /-- Transient: this step took a branch (R30). -/
  branchTaken : Bool
  /-- The bus the CPU is bound to (R39). -/
  bus : Bus
  deriving DecidableEq, Repr

/-- Why a step stops. -/
inductive Fault where
  /-- Raised by `step` when the opcode byte it fetched is one of the 105 illegal ones (R96, R270); the
  failure carries the opcode byte and nothing else. Safe: the spec would let the host step again from
  the state that `hostStep` reports (R272, D12), where this outcome ends the run. -/
  | illegalOpcode (opcode : Byte)
  deriving DecidableEq, Repr

/-- Why the model declines an instruction. -/
inductive Refusal where
  /-- Raised by `exec` for an instruction that has no meaning yet; none is left. Safe: nothing is
  claimed about such an instruction. -/
  | notModelled (mnemonic : String)
  deriving DecidableEq, Repr

/-- What running an instruction answers. -/
abbrev Result := Host.Outcome State Fault Refusal

/-- A bus with no device (R60): `RAM_SIZE` bytes of RAM, of which `init` lists the non-zero ones. -/
abbrev Bus.bare (size : Nat) (init : Memory) : Bus :=
  { ramSize := size, mem := init, devices := [] }

/-- The machine right after reset on a freshly constructed bus of the default size with no device
(R36, R310). RAM holds `unlistedByte` everywhere (DESIGN CHOICE, assumption log 1), so that the reset
vector read from it gives PC = 0x0000 (log 3); the transient booleans are false (log 5).
`Laws/Reset.lean` proves that this is what the operation `resetCpu` makes of that bus. -/
def State.reset : State :=
  { a := 0x00#8, x := 0x00#8, y := 0x00#8
    sp := Config.resetSp
    p := Config.resetP
    pc := 0x0000#16
    pageCrossed := false
    branchTaken := false
    bus := Bus.bare Config.defaultRamSize [] }

end Sys2Proof.Machine
end

