-- ==== Sys2Proof/Machine/Memory.lean ====
section
/-! DEFINITION. RAM as a list of (address, byte) pairs in one canonical form, the two device kinds, and
the bus router (spec/20_memory.md R51 to R54, spec/60_exceptions.md R290 to R295). -/

namespace Sys2Proof.Machine

/-- The byte RAM holds at an address. -/
def Memory.read : Memory → Nat → Byte
  | [], _ => unlistedByte
  | (k, v) :: m, a => if a = k then v else Memory.read m a

/-- RAM with a byte at an address replaced; keeps the canonical form (`Memory.wf`). -/
def Memory.write : Memory → Nat → Byte → Memory
  | [], a, v => if v = unlistedByte then [] else [(a, v)]
  | (k, u) :: m, a, v =>
    if a < k then (if v = unlistedByte then (k, u) :: m else (a, v) :: (k, u) :: m)
    else if a = k then (if v = unlistedByte then m else (a, v) :: m)
    else (k, u) :: Memory.write m a v

/-- Consecutive bytes written from an address up. -/
def Memory.writeAll : Memory → Nat → List Byte → Memory
  | m, _, [] => m
  | m, a, v :: vs => Memory.writeAll (Memory.write m a v) (a + 1) vs

/-- Addresses strictly rising from `lo` on, and no entry equal to what an unlisted byte reads as. -/
def Memory.risesFrom : Nat → Memory → Bool
  | _, [] => true
  | lo, (k, v) :: m => decide (lo ≤ k) && (v != unlistedByte) && Memory.risesFrom (k + 1) m

/-- The canonical form of RAM. -/
def Memory.wf (m : Memory) : Bool := Memory.risesFrom 0 m

/-- Every listed address is an index of a RAM of this size (R31). -/
def Memory.below (size : Nat) (m : Memory) : Bool := m.all (fun c => decide (c.1 < size))

/-- The three addresses are pairwise distinct (R291, D14). -/
def Bridge.wf (b : Bridge) : Bool :=
  (b.outAddr != b.statusAddr) && (b.outAddr != b.dataAddr) && (b.statusAddr != b.dataAddr)

/-- A device the spec lets be attached: a bridge has distinct addresses (D14). -/
def Device.wf : Device → Bool
  | .console b => b.wf
  | .other _ => true

/-- The bus is one that construction, `load`, `clear` and `attach` can make (R2, R31, R291): 1 ≤
RAM_SIZE ≤ 65536, RAM in canonical form within it, every bridge with distinct addresses. -/
def Bus.wf (b : Bus) : Bool :=
  decide (1 ≤ b.ramSize) && decide (b.ramSize ≤ Config.maxRamSize) && b.mem.wf &&
    b.mem.below b.ramSize && b.devices.all Device.wf

/-- The bytes the asynchronous producer has submitted by the time of this bridge read join the FIFO's
tail (R296, C7). -/
def Bridge.arrive (b : Bridge) : Bridge :=
  match b.arrivals with
  | [] => b
  | chunk :: later => { b with fifo := b.fifo ++ chunk, arrivals := later }

/-- `handles(addr)` of the bridge: true exactly for its three addresses (R291, D14). -/
def Bridge.handles (b : Bridge) (a : Addr) : Bool :=
  (a == b.outAddr) || (a == b.statusAddr) || (a == b.dataAddr)

/-- A read of InputStatus: 1 if the FIFO is non-empty, else 0; the fallback is not consulted
(R293). -/
def Bridge.readStatus (b : Bridge) : Byte × Bridge :=
  (if b.fifo.isEmpty then 0x00#8 else 0x01#8, b)

/-- A read of InputData: dequeue the oldest byte; with the FIFO empty consult the fallback source;
with nothing there 0 (R294). -/
def Bridge.readData (b : Bridge) : Byte × Bridge :=
  match b.fifo with
  | c :: queue => (c, { b with fifo := queue })
  | [] =>
    match b.fallback with
    | [] => (0x00#8, b)
    | none :: later => (0x00#8, { b with fallback := later })
    | some c :: later => (c, { b with fallback := later })

/-- A bus read of the bridge (R291 to R295); the last case is the defensive 0 of R54, which the bus
never asks for. -/
def Bridge.read (b : Bridge) (a : Addr) : Byte × Bridge :=
  if a = b.outAddr then (0x00#8, b)
  else if a = b.statusAddr then b.arrive.readStatus
  else if a = b.dataAddr then b.arrive.readData
  else (0x00#8, b)

/-- A bus write of the bridge: OutputData appends the byte to the sink, InputStatus and InputData
ignore it (R292, R295). -/
def Bridge.write (b : Bridge) (a : Addr) (v : Byte) : Bridge :=
  if a = b.outAddr then { b with sink := b.sink ++ [v] } else b

/-- A bus read of another device: a free byte, and the access joins its history (R33, R54). -/
def OtherDevice.read (d : OtherDevice) (a : Addr) : Byte × OtherDevice :=
  (Config.deviceRead d.id d.history a, { d with history := d.history ++ [.read a] })

/-- A bus write of another device: the access joins its history (R33, R54). -/
def OtherDevice.write (d : OtherDevice) (a : Addr) (v : Byte) : OtherDevice :=
  { d with history := d.history ++ [.write a v] }

/-- `handles(addr)`: a fixed function of the address alone (R54, D5). -/
def Device.handles : Device → Addr → Bool
  | .console b, a => b.handles a
  | .other d, a => d.claims.contains a

/-- `read(addr)` of a device (R54). -/
def Device.read : Device → Addr → Byte × Device
  | .console b, a => ((b.read a).1, .console (b.read a).2)
  | .other d, a => ((d.read a).1, .other (d.read a).2)

/-- `write(addr, value)` of a device (R54). -/
def Device.write : Device → Addr → Byte → Device
  | .console b, a, v => .console (b.write a v)
  | .other d, a, v => .other (d.write a v)

/-- The first device in attachment order that claims the address answers the read (R51, R52). -/
def readDevices : List Device → Addr → Option (Byte × List Device)
  | [], _ => none
  | d :: ds, a =>
    if d.handles a then some ((d.read a).1, (d.read a).2 :: ds)
    else (readDevices ds a).map (fun r => (r.1, d :: r.2))

/-- The first device in attachment order that claims the address takes the write (R52, R53). -/
def writeDevices : List Device → Addr → Byte → Option (List Device)
  | [], _, _ => none
  | d :: ds, a, v =>
    if d.handles a then some (d.write a v :: ds)
    else (writeDevices ds a v).map (fun r => d :: r)

/-- Some attached device claims the address. -/
def Bus.claimed (b : Bus) (a : Addr) : Bool := b.devices.any (fun d => d.handles a)

/-- The address is RAM that no device shadows (R51, R55). -/
def Bus.isRam (b : Bus) (a : Addr) : Bool := !b.claimed a && decide (a.toNat < b.ramSize)

/-- The byte RAM holds at an index, whether or not a device shadows it (R31). -/
def Bus.ramByte (b : Bus) (k : Nat) : Byte := b.mem.read k

/-- `MemRead(addr, 1)`: the claiming device, else RAM below RAM_SIZE, else open bus (R51). -/
def Bus.read (b : Bus) (a : Addr) : Byte × Bus :=
  match readDevices b.devices a with
  | some r => (r.1, { b with devices := r.2 })
  | none => (if a.toNat < b.ramSize then b.mem.read a.toNat else Config.openBusByte, b)

/-- `MemWrite(addr, 1, v)`: the claiming device, else RAM below RAM_SIZE, else dropped (R53). -/
def Bus.write (b : Bus) (a : Addr) (v : Byte) : Bus :=
  match writeDevices b.devices a v with
  | some ds => { b with devices := ds }
  | none => if a.toNat < b.ramSize then { b with mem := b.mem.write a.toNat v } else b

/-- The byte a read of an address would give at this moment: the model's read of one byte. -/
def Bus.peek (b : Bus) (a : Addr) : Byte := (b.read a).1

end Sys2Proof.Machine
end

