-- ==== Sys2Proof/Machine/Flags.lean ====
section
/-! DEFINITION. The status register's flags and every flag and result computation of the instruction
set: `WriteP`, `SetZN`, binary and decimal addition and subtraction, compares, shifts, rotates. -/

namespace Sys2Proof.Machine

/-- The flags of P (R25). -/
inductive Flag where
  | carry | zero | interruptDisable | decimal | break | unused | overflow | negative
  deriving DecidableEq, Repr

/-- The bit number of a flag (R25). -/
def Flag.bit : Flag → Nat
  | .carry => 0
  | .zero => 1
  | .interruptDisable => 2
  | .decimal => 3
  | .break => 4
  | .unused => 5
  | .overflow => 6
  | .negative => 7

/-- The mask of a flag (R25). -/
def Flag.mask : Flag → Byte
  | .carry => 0x01#8
  | .zero => 0x02#8
  | .interruptDisable => 0x04#8
  | .decimal => 0x08#8
  | .break => 0x10#8
  | .unused => 0x20#8
  | .overflow => 0x40#8
  | .negative => 0x80#8

/-- A flag of a status byte. -/
def flagOf (p : Byte) (f : Flag) : Bool := p.getLsbD f.bit

/-- A status byte with one flag replaced. -/
def replaceFlag (f : Flag) (e : Bool) (p : Byte) : Byte :=
  if e then p ||| f.mask else p &&& ~~~f.mask

/-- The byte that `WriteP(v)` leaves in P (R144): the Unused bit is forced to 1. -/
def forceUnused (v : Byte) : Byte := v ||| 0x20#8

/-- The copy of P that PHP and BRK push, with Break set (R237, R255). -/
def pushedStatus (p : Byte) : Byte := p ||| 0x10#8

/-- What PLP and RTI give `WriteP`: Unused forced to 1, Break forced to 0 (R238, R256). -/
def pulledStatus (v : Byte) : Byte := (v &&& 0xEF#8) ||| 0x20#8

/-- A flag as the number 0 or 1. -/
def bitNat (c : Bool) : Nat := if c then 1 else 0

/-- A flag as the integer 0 or 1. -/
def bitInt (c : Bool) : Int := if c then 1 else 0

/-- `BcdVal(v)`: high nibble times ten plus low nibble, for every byte (R173). -/
def bcdVal (v : Byte) : Nat := v.toNat / 16 * 10 + v.toNat % 16

/-- `BcdEnc(r)` for 0 ≤ r ≤ 99 (R173). -/
def bcdEnc (r : Nat) : Byte := BitVec.ofNat 8 (r / 10 * 16 + r % 10)

/-- What an addition or subtraction delivers: the new A, C and V. -/
structure AluResult where
  value : Byte
  carry : Bool
  overflow : Bool
  deriving DecidableEq, Repr

/-- ADC's signed overflow, "sign of A and M equal and sign of result differs from them", from the
binary sum in both modes (R170, U1). -/
def addOverflow (a m : Byte) (c : Bool) : Bool :=
  (a.msb == m.msb) && ((BitVec.ofNat 8 (a.toNat + m.toNat + bitNat c)).msb != a.msb)

/-- ADC with D = 0 (R170). -/
def addBinary (a m : Byte) (c : Bool) : AluResult :=
  let bsum := a.toNat + m.toNat + bitNat c
  { value := BitVec.ofNat 8 bsum
    carry := decide (0xFF < bsum)
    overflow := addOverflow a m c }

/-- ADC with D = 1 (R170): total on every byte, valid BCD or not (U11). -/
def addDecimal (a m : Byte) (c : Bool) : AluResult :=
  let dsum := bcdVal a + bcdVal m + bitNat c
  { value := bcdEnc (dsum % 100)
    carry := decide (99 < dsum)
    overflow := addOverflow a m c }

/-- ADC's result (R170): D selects the path. -/
def addWithCarry (d : Bool) (a m : Byte) (c : Bool) : AluResult :=
  if d then addDecimal a m c else addBinary a m c

/-- The unbounded binary difference `A - M - (1 - c)` (R171). -/
def binaryDifference (a m : Byte) (c : Bool) : Int :=
  (a.toNat : Int) - (m.toNat : Int) - (1 - bitInt c)

/-- SBC's signed overflow, "sign of A and M differ and sign of result differs from A", from the
binary difference in both modes (R171, D10). -/
def subOverflow (a m : Byte) (c : Bool) : Bool :=
  (a.msb != m.msb) && ((BitVec.ofInt 8 (binaryDifference a m c)).msb != a.msb)

/-- SBC with D = 0 (R171). -/
def subBinary (a m : Byte) (c : Bool) : AluResult :=
  { value := BitVec.ofInt 8 (binaryDifference a m c)
    carry := decide (0 ≤ binaryDifference a m c)
    overflow := subOverflow a m c }

/-- The unbounded decimal difference (R171). -/
def decimalDifference (a m : Byte) (c : Bool) : Int :=
  (bcdVal a : Int) - (bcdVal m : Int) - (1 - bitInt c)

/-- "adds 100 when borrowed" (R171). -/
def adjustBorrow (d : Int) : Int := if d < 0 then d + 100 else d

/-- SBC with D = 1 (R171). Outside 0..99 the result byte is the free value `DEC_SBC_INVALID`
(corner case (e), D18); C and V stay defined. -/
def subDecimal (a m : Byte) (c : Bool) : AluResult :=
  let ddiff := adjustBorrow (decimalDifference a m c)
  { value := if 0 ≤ ddiff ∧ ddiff ≤ 99 then bcdEnc ddiff.toNat else Config.decSbcInvalid a m c
    carry := decide (0 ≤ decimalDifference a m c)
    overflow := subOverflow a m c }

/-- SBC's result (R171): D selects the path. -/
def subWithBorrow (d : Bool) (a m : Byte) (c : Bool) : AluResult :=
  if d then subDecimal a m c else subBinary a m c

/-- ASL: old bit 7 out, 0 in (R190). -/
def aslByte (v : Byte) : Byte × Bool := (v <<< 1, v.msb)

/-- LSR: old bit 0 out, 0 in (R191). -/
def lsrByte (v : Byte) : Byte × Bool := (v >>> 1, v.getLsbD 0)

/-- ROL through carry `c` (R192). -/
def rolByte (c : Bool) (v : Byte) : Byte × Bool :=
  ((v <<< 1) ||| (if c then 0x01#8 else 0x00#8), v.msb)

/-- ROR through carry `c` (R193). -/
def rorByte (c : Bool) (v : Byte) : Byte × Bool :=
  ((v >>> 1) ||| (if c then 0x80#8 else 0x00#8), v.getLsbD 0)

end Sys2Proof.Machine
end

