-- ==== Sys2Proof/Machine/Ops.lean ====
section
/-! DEFINITION. The named operations over registers, flags, the bus and the stack (spec/40_addressing.md
R121 to R123, R140 to R144), the BRK trap's entry and return (R255, R256, R275 to R278), and the reset
operation (R310). -/

namespace Sys2Proof.Machine

/-! Register writes. -/

/-- `A <- v`. -/
def State.setA (s : State) (v : Byte) : State := { s with a := v }
/-- `X <- v`. -/
def State.setX (s : State) (v : Byte) : State := { s with x := v }
/-- `Y <- v`. -/
def State.setY (s : State) (v : Byte) : State := { s with y := v }
/-- `SP <- v`. -/
def State.setSp (s : State) (v : Byte) : State := { s with sp := v }
/-- `PC <- w`. -/
def State.setPc (s : State) (w : Addr) : State := { s with pc := w }
/-- `page_crossed <- e` (R30). -/
def State.setPageCrossed (s : State) (e : Bool) : State := { s with pageCrossed := e }
/-- `branch_taken <- e` (R30). -/
def State.setBranchTaken (s : State) (e : Bool) : State := { s with branchTaken := e }
/-- The bus after an access. -/
def State.setBus (s : State) (b : Bus) : State := { s with bus := b }

/-- `WriteP(v)`: the one setter of P, which keeps the Unused bit 1 (R144). -/
def State.writeP (s : State) (v : Byte) : State := { s with p := forceUnused v }

/-! Flags. -/

/-- `P.F`. -/
def State.flag (s : State) (f : Flag) : Bool := flagOf s.p f

/-- `P.F <- e`, which is `WriteP` of P with that bit replaced (R144). -/
def State.setFlag (s : State) (f : Flag) (e : Bool) : State := s.writeP (replaceFlag f e s.p)

/-- `SetZN(v)` (R143). -/
def State.setZN (s : State) (v : Byte) : State :=
  (s.setFlag .zero (v == 0x00#8)).setFlag .negative v.msb

/-! Bus accesses. -/

/-- `MemRead(addr, 1)` (R51). -/
def State.busRead (s : State) (a : Addr) : Byte × State :=
  ((s.bus.read a).1, s.setBus (s.bus.read a).2)

/-- `MemWrite(addr, 1, v)` (R53). -/
def State.busWrite (s : State) (a : Addr) (v : Byte) : State := s.setBus (s.bus.write a v)

/-- `FetchByte()` (R121). -/
def State.fetchByte (s : State) : Byte × State :=
  let r := s.busRead s.pc
  (r.1, r.2.setPc (r.2.pc + 1#16))

/-- `FetchWord()`: low byte first (R121). -/
def State.fetchWord (s : State) : Addr × State :=
  let lo := s.fetchByte
  let hi := lo.2.fetchByte
  (mkWord hi.1 lo.1, hi.2)

/-- Two byte reads, low byte first, that make a word (R61, D9). -/
def State.readPair (s : State) (loAt hiAt : Addr) : Addr × State :=
  let lo := s.busRead loAt
  let hi := lo.2.busRead hiAt
  (mkWord hi.1 lo.1, hi.2)

/-- `ReadWord(a)` (R122). -/
def State.readWord (s : State) (a : Addr) : Addr × State := s.readPair a (a + 1#16)

/-- `ReadWordBug(a)`: the high byte comes from the same page (R123). -/
def State.readWordBug (s : State) (a : Addr) : Addr × State :=
  s.readPair a (mkWord (hiByte a) (loByte a + 1#8))

/-- A pointer in page 0: both bytes from page 0 (R135, R136). -/
def State.readZeroPagePointer (s : State) (ptr : Byte) : Addr × State :=
  s.readPair (zext16 ptr) (zext16 (ptr + 1#8))

/-! The stack. -/

/-- `Push(v)`: write at `0x0100 | SP`, then decrement (R140). -/
def State.push (s : State) (v : Byte) : State :=
  let t := s.busWrite (stackAddr s.sp) v
  t.setSp (t.sp - 1#8)

/-- `Pull()`: increment, then read at `0x0100 | SP` (R141). -/
def State.pull (s : State) : Byte × State :=
  let t := s.setSp (s.sp + 1#8)
  t.busRead (stackAddr t.sp)

/-- A word is pushed high byte first (R142). -/
def State.pushWord (s : State) (w : Addr) : State := (s.push (hiByte w)).push (loByte w)

/-- A word is pulled low byte first (R142). -/
def State.pullWord (s : State) : Addr × State :=
  let lo := s.pull
  let hi := lo.2.pull
  (mkWord hi.1 lo.1, hi.2)

/-- Pull the status: Unused forced to 1, Break forced to 0 (R238, R256). -/
def State.pullStatus (s : State) : State :=
  let r := s.pull
  r.2.writeP (pulledStatus r.1)

/-! The one trap: entry and return (spec/60_exceptions.md section 2). -/

/-- Taking the trap (R255, R276, R277): return address high, low, then the status with Break set in the
pushed copy; I set, nothing else of P; PC from the vector at 0xFFFE. -/
def State.takeTrap (s : State) (returnTo : Addr) : State :=
  let pushed := (s.pushWord returnTo).push (pushedStatus s.p)
  let masked := pushed.setFlag .interruptDisable true
  let vector := masked.readWord Config.brkVector
  vector.2.setPc vector.1

/-- Returning from the trap (R256, R278): status first, then PC, with no increment. -/
def State.returnFromTrap (s : State) : State :=
  let t := s.pullStatus
  let w := t.pullWord
  w.2.setPc w.1

/-! Reset. -/

/-- `reset()` (R310, R312): the registers, then PC from the word at 0xFFFC; no bus write. The transient
booleans are not stated after reset (R36): the model clears them (DESIGN CHOICE, assumption
log 5). -/
def State.resetCpu (s : State) : State :=
  let t : State :=
    { s with
      a := 0x00#8, x := 0x00#8, y := 0x00#8, sp := Config.resetSp, p := Config.resetP
      pageCrossed := false, branchTaken := false }
  let w := t.readWord Config.resetVector
  w.2.setPc w.1

end Sys2Proof.Machine
end

