-- ==== Sys2Proof/Machine/Operands.lean ====
section
/-! DEFINITION. The addressing-mode engine (R124 to R139): effective addresses, operands, stores and
read-modify-writes. PC already stands past the operand bytes: `Execute.lean` fetched them (R120). -/

namespace Sys2Proof.Machine

/-- A mode with an effective data address, with its operand byte or word (R127 to R129, R131 to R133,
R135, R136). -/
inductive MemMode where
  | zeroPage (b : Byte)
  | zeroPageX (b : Byte)
  | zeroPageY (b : Byte)
  | absolute (w : Addr)
  | absoluteX (w : Addr)
  | absoluteY (w : Addr)
  | indexedIndirect (b : Byte)
  | indirectIndexed (b : Byte)
  deriving DecidableEq, Repr

/-- What a reading instruction reads its operand from (R137). -/
inductive Operand where
  | immediate (b : Byte)
  | memory (m : MemMode)
  deriving DecidableEq, Repr

/-- The page-0 address of a base and an index, modulo 256 (R128, R129). -/
def zeroPageIndexed (b i : Byte) : Addr := zext16 (b + i)

/-- A base indexed modulo 65536; `page_crossed` is set from the arithmetic alone (R132, R133, R136,
R145). -/
def indexAddress (w : Addr) (i : Byte) (s : State) : Addr × State :=
  let ea := w + zext16 i
  (ea, s.setPageCrossed (pageDiffers ea w))

/-- `(zp,X)`: the pointer at `(b + X) mod 256` (R135). -/
def eaIndexedIndirect (b : Byte) (s : State) : Addr × State := s.readZeroPagePointer (b + s.x)

/-- `(zp),Y`: the pointer at b, indexed by Y (R136). -/
def eaIndirectIndexed (b : Byte) (s : State) : Addr × State :=
  let r := s.readZeroPagePointer b
  indexAddress r.1 r.2.y r.2

/-- The effective address of a mode, with the state its pointer reads leave (R127 to R136). -/
def address : MemMode → State → Addr × State
  | .zeroPage b, s => (zext16 b, s)
  | .zeroPageX b, s => (zeroPageIndexed b s.x, s)
  | .zeroPageY b, s => (zeroPageIndexed b s.y, s)
  | .absolute w, s => (w, s)
  | .absoluteX w, s => indexAddress w s.x s
  | .absoluteY w, s => indexAddress w s.y s
  | .indexedIndirect b, s => eaIndexedIndirect b s
  | .indirectIndexed b, s => eaIndirectIndexed b s

/-- The operand M: the immediate byte, or exactly one read at the effective address (R126, R137). -/
def operand : Operand → State → Byte × State
  | .immediate b, s => (b, s)
  | .memory m, s => let e := address m s; e.2.busRead e.1

/-- A store: exactly one write at the effective address, no read of it (R138, D6). -/
def storeTo (m : MemMode) (v : Byte) (s : State) : State :=
  let e := address m s
  e.2.busWrite e.1 v

/-- A read-modify-write: one read, then one write of the result, at an effective address computed once;
answers the result byte, the carry the operation gives, and the state (R139, D7). -/
def modifyAt (m : MemMode) (f : Byte → Byte × Bool) (s : State) : (Byte × Bool) × State :=
  let e := address m s
  let r := e.2.busRead e.1
  (f r.1, r.2.busWrite e.1 (f r.1).1)

end Sys2Proof.Machine
end

