-- ==== Sys2Proof/Machine/Arithmetic.lean ====
section
/-! DEFINITION. ADC and SBC in binary and decimal mode (spec/42_arithmetic.md, R170, R171). -/

namespace Sys2Proof.Machine

/-- Write an addition's or subtraction's result: A, C, V, and Z and N from the final A in both modes
(R170, R171, C1). -/
def State.setAlu (s : State) (r : AluResult) : State :=
  (((s.setFlag .carry r.carry).setA r.value).setFlag .overflow r.overflow).setZN r.value

/-- ADC (R170). -/
def addTo (o : Operand) (s : State) : State :=
  let r := operand o s
  r.2.setAlu (addWithCarry (r.2.flag .decimal) r.2.a r.1 (r.2.flag .carry))

/-- SBC (R171). -/
def subFrom (o : Operand) (s : State) : State :=
  let r := operand o s
  r.2.setAlu (subWithBorrow (r.2.flag .decimal) r.2.a r.1 (r.2.flag .carry))

/-- ADC #: R170, R126. -/
def execAdcImmediate (b : Byte) (s : State) : Result :=
  .next (addTo (.immediate b) s)

/-- ADC zp: R170, R127. -/
def execAdcZeroPage (b : Byte) (s : State) : Result :=
  .next (addTo (.memory (.zeroPage b)) s)

/-- ADC zp,X: R170, R128. -/
def execAdcZeroPageX (b : Byte) (s : State) : Result :=
  .next (addTo (.memory (.zeroPageX b)) s)

/-- ADC abs: R170, R131. -/
def execAdcAbsolute (w : Addr) (s : State) : Result :=
  .next (addTo (.memory (.absolute w)) s)

/-- ADC abs,X: R170, R132. -/
def execAdcAbsoluteX (w : Addr) (s : State) : Result :=
  .next (addTo (.memory (.absoluteX w)) s)

/-- ADC abs,Y: R170, R133. -/
def execAdcAbsoluteY (w : Addr) (s : State) : Result :=
  .next (addTo (.memory (.absoluteY w)) s)

/-- ADC (zp,X): R170, R135. -/
def execAdcIndexedIndirect (b : Byte) (s : State) : Result :=
  .next (addTo (.memory (.indexedIndirect b)) s)

/-- ADC (zp),Y: R170, R136. -/
def execAdcIndirectIndexed (b : Byte) (s : State) : Result :=
  .next (addTo (.memory (.indirectIndexed b)) s)

/-- SBC #: R171, R126. -/
def execSbcImmediate (b : Byte) (s : State) : Result :=
  .next (subFrom (.immediate b) s)

/-- SBC zp: R171, R127. -/
def execSbcZeroPage (b : Byte) (s : State) : Result :=
  .next (subFrom (.memory (.zeroPage b)) s)

/-- SBC zp,X: R171, R128. -/
def execSbcZeroPageX (b : Byte) (s : State) : Result :=
  .next (subFrom (.memory (.zeroPageX b)) s)

/-- SBC abs: R171, R131. -/
def execSbcAbsolute (w : Addr) (s : State) : Result :=
  .next (subFrom (.memory (.absolute w)) s)

/-- SBC abs,X: R171, R132. -/
def execSbcAbsoluteX (w : Addr) (s : State) : Result :=
  .next (subFrom (.memory (.absoluteX w)) s)

/-- SBC abs,Y: R171, R133. -/
def execSbcAbsoluteY (w : Addr) (s : State) : Result :=
  .next (subFrom (.memory (.absoluteY w)) s)

/-- SBC (zp,X): R171, R135. -/
def execSbcIndexedIndirect (b : Byte) (s : State) : Result :=
  .next (subFrom (.memory (.indexedIndirect b)) s)

/-- SBC (zp),Y: R171, R136. -/
def execSbcIndirectIndexed (b : Byte) (s : State) : Result :=
  .next (subFrom (.memory (.indirectIndexed b)) s)

end Sys2Proof.Machine
end

