-- ==== Sys2Proof/Machine/Control.lean ====
section
/-! DEFINITION. Branches, jumps, subroutine call and return (spec/46_branch_jump.md, R215 to R227). -/

namespace Sys2Proof.Machine

/-- A conditional branch: PC is already the address of the next instruction; taken, it moves by the
signed displacement and the transient booleans record it (R215). -/
def branchIf (cond : Bool) (off : Byte) (s : State) : State :=
  if cond then
    let new := s.pc + sext16 off
    ((s.setBranchTaken true).setPageCrossed (pageDiffers new s.pc)).setPc new
  else s

/-- JSR: push the address of the instruction's last byte, high byte first, then jump (R225). -/
def callSubroutine (target : Addr) (s : State) : State :=
  (s.pushWord (s.pc - 1#16)).setPc target

/-- RTS: pull a word, low byte first, and continue one past it (R226). -/
def returnFromSubroutine (s : State) : State :=
  let w := s.pullWord
  w.2.setPc (w.1 + 1#16)

/-- `JMP (ind)`: PC from the pointer, with the page-wrap quirk (R134, R224). -/
def jumpIndirect (w : Addr) (s : State) : State :=
  let t := s.readWordBug w
  t.2.setPc t.1

/-- BPL rel: R216, R130. -/
def execBpl (b : Byte) (s : State) : Result :=
  .next (branchIf (!s.flag .negative) b s)

/-- BMI rel: R217, R130. -/
def execBmi (b : Byte) (s : State) : Result :=
  .next (branchIf (s.flag .negative) b s)

/-- BVC rel: R218, R130. -/
def execBvc (b : Byte) (s : State) : Result :=
  .next (branchIf (!s.flag .overflow) b s)

/-- BVS rel: R219, R130. -/
def execBvs (b : Byte) (s : State) : Result :=
  .next (branchIf (s.flag .overflow) b s)

/-- BCC rel: R220, R130. -/
def execBcc (b : Byte) (s : State) : Result :=
  .next (branchIf (!s.flag .carry) b s)

/-- BCS rel: R221, R130. -/
def execBcs (b : Byte) (s : State) : Result :=
  .next (branchIf (s.flag .carry) b s)

/-- BNE rel: R222, R130. -/
def execBne (b : Byte) (s : State) : Result :=
  .next (branchIf (!s.flag .zero) b s)

/-- BEQ rel: R223, R130. -/
def execBeq (b : Byte) (s : State) : Result :=
  .next (branchIf (s.flag .zero) b s)

/-- JMP abs: R224, R131. -/
def execJmpAbsolute (w : Addr) (s : State) : Result :=
  .next (s.setPc w)

/-- JMP (ind): R224, R134. -/
def execJmpIndirect (w : Addr) (s : State) : Result :=
  .next (jumpIndirect w s)

/-- JSR abs: R225, R131. -/
def execJsr (w : Addr) (s : State) : Result :=
  .next (callSubroutine w s)

/-- RTS: R226, R124. -/
def execRts (s : State) : Result :=
  .next (returnFromSubroutine s)

end Sys2Proof.Machine
end

