-- ==== Sys2Proof/Machine/IncDecCompare.lean ====
section
/-! DEFINITION. Increments, decrements and compares (spec/45_incdec_compare.md, R200 to R208). -/

namespace Sys2Proof.Machine

/-- INC and DEC: one read, one write, Z and N from the result; C and V untouched (R200, R201). -/
def stepMemory (f : Byte → Byte) (m : MemMode) (s : State) : State :=
  let q := modifyAt m (fun v => (f v, false)) s
  q.2.setZN q.1.1

/-- A compare of a register with M: C := register ≥ M unsigned, Z := equal, N := bit 7 of the 8-bit
difference; the register and V are unchanged (R206 to R208). -/
def State.compare (s : State) (register m : Byte) : State :=
  ((s.setFlag .carry (decide (m.toNat ≤ register.toNat))).setFlag .zero (register == m)).setFlag
    .negative (register - m).msb

/-- CMP (R206). -/
def compareA (o : Operand) (s : State) : State :=
  let r := operand o s
  r.2.compare r.2.a r.1

/-- CPX (R207). -/
def compareX (o : Operand) (s : State) : State :=
  let r := operand o s
  r.2.compare r.2.x r.1

/-- CPY (R208). -/
def compareY (o : Operand) (s : State) : State :=
  let r := operand o s
  r.2.compare r.2.y r.1

/-- INC zp: R200, R127. -/
def execIncZeroPage (b : Byte) (s : State) : Result :=
  .next (stepMemory (fun v => v + 1#8) (.zeroPage b) s)

/-- INC zp,X: R200, R128. -/
def execIncZeroPageX (b : Byte) (s : State) : Result :=
  .next (stepMemory (fun v => v + 1#8) (.zeroPageX b) s)

/-- INC abs: R200, R131. -/
def execIncAbsolute (w : Addr) (s : State) : Result :=
  .next (stepMemory (fun v => v + 1#8) (.absolute w) s)

/-- INC abs,X: R200, R132. -/
def execIncAbsoluteX (w : Addr) (s : State) : Result :=
  .next (stepMemory (fun v => v + 1#8) (.absoluteX w) s)

/-- DEC zp: R201, R127. -/
def execDecZeroPage (b : Byte) (s : State) : Result :=
  .next (stepMemory (fun v => v - 1#8) (.zeroPage b) s)

/-- DEC zp,X: R201, R128. -/
def execDecZeroPageX (b : Byte) (s : State) : Result :=
  .next (stepMemory (fun v => v - 1#8) (.zeroPageX b) s)

/-- DEC abs: R201, R131. -/
def execDecAbsolute (w : Addr) (s : State) : Result :=
  .next (stepMemory (fun v => v - 1#8) (.absolute w) s)

/-- DEC abs,X: R201, R132. -/
def execDecAbsoluteX (w : Addr) (s : State) : Result :=
  .next (stepMemory (fun v => v - 1#8) (.absoluteX w) s)

/-- INX: R202, R124. -/
def execInx (s : State) : Result :=
  .next ((s.setX (s.x + 1#8)).setZN (s.x + 1#8))

/-- INY: R203, R124. -/
def execIny (s : State) : Result :=
  .next ((s.setY (s.y + 1#8)).setZN (s.y + 1#8))

/-- DEX: R204, R124. -/
def execDex (s : State) : Result :=
  .next ((s.setX (s.x - 1#8)).setZN (s.x - 1#8))

/-- DEY: R205, R124. -/
def execDey (s : State) : Result :=
  .next ((s.setY (s.y - 1#8)).setZN (s.y - 1#8))

/-- CMP #: R206, R126. -/
def execCmpImmediate (b : Byte) (s : State) : Result :=
  .next (compareA (.immediate b) s)

/-- CMP zp: R206, R127. -/
def execCmpZeroPage (b : Byte) (s : State) : Result :=
  .next (compareA (.memory (.zeroPage b)) s)

/-- CMP zp,X: R206, R128. -/
def execCmpZeroPageX (b : Byte) (s : State) : Result :=
  .next (compareA (.memory (.zeroPageX b)) s)

/-- CMP abs: R206, R131. -/
def execCmpAbsolute (w : Addr) (s : State) : Result :=
  .next (compareA (.memory (.absolute w)) s)

/-- CMP abs,X: R206, R132. -/
def execCmpAbsoluteX (w : Addr) (s : State) : Result :=
  .next (compareA (.memory (.absoluteX w)) s)

/-- CMP abs,Y: R206, R133. -/
def execCmpAbsoluteY (w : Addr) (s : State) : Result :=
  .next (compareA (.memory (.absoluteY w)) s)

/-- CMP (zp,X): R206, R135. -/
def execCmpIndexedIndirect (b : Byte) (s : State) : Result :=
  .next (compareA (.memory (.indexedIndirect b)) s)

/-- CMP (zp),Y: R206, R136. -/
def execCmpIndirectIndexed (b : Byte) (s : State) : Result :=
  .next (compareA (.memory (.indirectIndexed b)) s)

/-- CPX #: R207, R126. -/
def execCpxImmediate (b : Byte) (s : State) : Result :=
  .next (compareX (.immediate b) s)

/-- CPX zp: R207, R127. -/
def execCpxZeroPage (b : Byte) (s : State) : Result :=
  .next (compareX (.memory (.zeroPage b)) s)

/-- CPX abs: R207, R131. -/
def execCpxAbsolute (w : Addr) (s : State) : Result :=
  .next (compareX (.memory (.absolute w)) s)

/-- CPY #: R208, R126. -/
def execCpyImmediate (b : Byte) (s : State) : Result :=
  .next (compareY (.immediate b) s)

/-- CPY zp: R208, R127. -/
def execCpyZeroPage (b : Byte) (s : State) : Result :=
  .next (compareY (.memory (.zeroPage b)) s)

/-- CPY abs: R208, R131. -/
def execCpyAbsolute (w : Addr) (s : State) : Result :=
  .next (compareY (.memory (.absolute w)) s)

end Sys2Proof.Machine
end

