-- ==== Sys2Proof/Machine/Logic.lean ====
section
/-! DEFINITION. AND, ORA, EOR and BIT (spec/43_logical_bit.md, R180 to R183). -/

namespace Sys2Proof.Machine

/-- `M <- operand(mode); A <- f A M; SetZN(A)` (R180 to R182). -/
def logicA (f : Byte → Byte → Byte) (o : Operand) (s : State) : State :=
  let r := operand o s
  (r.2.setA (f r.2.a r.1)).setZN (f r.2.a r.1)

/-- BIT: Z from `A & M`, N and V from M (R183). -/
def testBits (o : Operand) (s : State) : State :=
  let r := operand o s
  ((r.2.setFlag .zero (r.2.a &&& r.1 == 0x00#8)).setFlag .negative r.1.msb).setFlag .overflow
    (r.1.getLsbD 6)

/-- AND #: R180, R126. -/
def execAndImmediate (b : Byte) (s : State) : Result :=
  .next (logicA BitVec.and (.immediate b) s)

/-- AND zp: R180, R127. -/
def execAndZeroPage (b : Byte) (s : State) : Result :=
  .next (logicA BitVec.and (.memory (.zeroPage b)) s)

/-- AND zp,X: R180, R128. -/
def execAndZeroPageX (b : Byte) (s : State) : Result :=
  .next (logicA BitVec.and (.memory (.zeroPageX b)) s)

/-- AND abs: R180, R131. -/
def execAndAbsolute (w : Addr) (s : State) : Result :=
  .next (logicA BitVec.and (.memory (.absolute w)) s)

/-- AND abs,X: R180, R132. -/
def execAndAbsoluteX (w : Addr) (s : State) : Result :=
  .next (logicA BitVec.and (.memory (.absoluteX w)) s)

/-- AND abs,Y: R180, R133. -/
def execAndAbsoluteY (w : Addr) (s : State) : Result :=
  .next (logicA BitVec.and (.memory (.absoluteY w)) s)

/-- AND (zp,X): R180, R135. -/
def execAndIndexedIndirect (b : Byte) (s : State) : Result :=
  .next (logicA BitVec.and (.memory (.indexedIndirect b)) s)

/-- AND (zp),Y: R180, R136. -/
def execAndIndirectIndexed (b : Byte) (s : State) : Result :=
  .next (logicA BitVec.and (.memory (.indirectIndexed b)) s)

/-- ORA #: R181, R126. -/
def execOraImmediate (b : Byte) (s : State) : Result :=
  .next (logicA BitVec.or (.immediate b) s)

/-- ORA zp: R181, R127. -/
def execOraZeroPage (b : Byte) (s : State) : Result :=
  .next (logicA BitVec.or (.memory (.zeroPage b)) s)

/-- ORA zp,X: R181, R128. -/
def execOraZeroPageX (b : Byte) (s : State) : Result :=
  .next (logicA BitVec.or (.memory (.zeroPageX b)) s)

/-- ORA abs: R181, R131. -/
def execOraAbsolute (w : Addr) (s : State) : Result :=
  .next (logicA BitVec.or (.memory (.absolute w)) s)

/-- ORA abs,X: R181, R132. -/
def execOraAbsoluteX (w : Addr) (s : State) : Result :=
  .next (logicA BitVec.or (.memory (.absoluteX w)) s)

/-- ORA abs,Y: R181, R133. -/
def execOraAbsoluteY (w : Addr) (s : State) : Result :=
  .next (logicA BitVec.or (.memory (.absoluteY w)) s)

/-- ORA (zp,X): R181, R135. -/
def execOraIndexedIndirect (b : Byte) (s : State) : Result :=
  .next (logicA BitVec.or (.memory (.indexedIndirect b)) s)

/-- ORA (zp),Y: R181, R136. -/
def execOraIndirectIndexed (b : Byte) (s : State) : Result :=
  .next (logicA BitVec.or (.memory (.indirectIndexed b)) s)

/-- EOR #: R182, R126. -/
def execEorImmediate (b : Byte) (s : State) : Result :=
  .next (logicA BitVec.xor (.immediate b) s)

/-- EOR zp: R182, R127. -/
def execEorZeroPage (b : Byte) (s : State) : Result :=
  .next (logicA BitVec.xor (.memory (.zeroPage b)) s)

/-- EOR zp,X: R182, R128. -/
def execEorZeroPageX (b : Byte) (s : State) : Result :=
  .next (logicA BitVec.xor (.memory (.zeroPageX b)) s)

/-- EOR abs: R182, R131. -/
def execEorAbsolute (w : Addr) (s : State) : Result :=
  .next (logicA BitVec.xor (.memory (.absolute w)) s)

/-- EOR abs,X: R182, R132. -/
def execEorAbsoluteX (w : Addr) (s : State) : Result :=
  .next (logicA BitVec.xor (.memory (.absoluteX w)) s)

/-- EOR abs,Y: R182, R133. -/
def execEorAbsoluteY (w : Addr) (s : State) : Result :=
  .next (logicA BitVec.xor (.memory (.absoluteY w)) s)

/-- EOR (zp,X): R182, R135. -/
def execEorIndexedIndirect (b : Byte) (s : State) : Result :=
  .next (logicA BitVec.xor (.memory (.indexedIndirect b)) s)

/-- EOR (zp),Y: R182, R136. -/
def execEorIndirectIndexed (b : Byte) (s : State) : Result :=
  .next (logicA BitVec.xor (.memory (.indirectIndexed b)) s)

/-- BIT zp: R183, R127. -/
def execBitZeroPage (b : Byte) (s : State) : Result :=
  .next (testBits (.memory (.zeroPage b)) s)

/-- BIT abs: R183, R131. -/
def execBitAbsolute (w : Addr) (s : State) : Result :=
  .next (testBits (.memory (.absolute w)) s)

end Sys2Proof.Machine
end

