-- ==== Sys2Proof/Machine/Shift.lean ====
section
/-! DEFINITION. Shifts and rotates of A or memory (spec/44_shift_rotate.md, R190 to R193). -/

namespace Sys2Proof.Machine

/-- The Accumulator form: A receives the result, `P.C <- new carry; SetZN(r)`. -/
def shiftA (f : Byte → Byte × Bool) (s : State) : State :=
  let q := f s.a
  ((s.setA q.1).setFlag .carry q.2).setZN q.1

/-- The memory forms: one read, one write, `P.C <- new carry; SetZN(r)`; A is untouched (R139). -/
def shiftMemory (f : Byte → Byte × Bool) (m : MemMode) (s : State) : State :=
  let q := modifyAt m f s
  (q.2.setFlag .carry q.1.2).setZN q.1.1

/-- ASL A: R190, R125. -/
def execAslAccumulator (s : State) : Result :=
  .next (shiftA aslByte s)

/-- ASL zp: R190, R127. -/
def execAslZeroPage (b : Byte) (s : State) : Result :=
  .next (shiftMemory aslByte (.zeroPage b) s)

/-- ASL zp,X: R190, R128. -/
def execAslZeroPageX (b : Byte) (s : State) : Result :=
  .next (shiftMemory aslByte (.zeroPageX b) s)

/-- ASL abs: R190, R131. -/
def execAslAbsolute (w : Addr) (s : State) : Result :=
  .next (shiftMemory aslByte (.absolute w) s)

/-- ASL abs,X: R190, R132. -/
def execAslAbsoluteX (w : Addr) (s : State) : Result :=
  .next (shiftMemory aslByte (.absoluteX w) s)

/-- LSR A: R191, R125. -/
def execLsrAccumulator (s : State) : Result :=
  .next (shiftA lsrByte s)

/-- LSR zp: R191, R127. -/
def execLsrZeroPage (b : Byte) (s : State) : Result :=
  .next (shiftMemory lsrByte (.zeroPage b) s)

/-- LSR zp,X: R191, R128. -/
def execLsrZeroPageX (b : Byte) (s : State) : Result :=
  .next (shiftMemory lsrByte (.zeroPageX b) s)

/-- LSR abs: R191, R131. -/
def execLsrAbsolute (w : Addr) (s : State) : Result :=
  .next (shiftMemory lsrByte (.absolute w) s)

/-- LSR abs,X: R191, R132. -/
def execLsrAbsoluteX (w : Addr) (s : State) : Result :=
  .next (shiftMemory lsrByte (.absoluteX w) s)

/-- ROL A: R192, R125. -/
def execRolAccumulator (s : State) : Result :=
  .next (shiftA (rolByte (s.flag .carry)) s)

/-- ROL zp: R192, R127. -/
def execRolZeroPage (b : Byte) (s : State) : Result :=
  .next (shiftMemory (rolByte (s.flag .carry)) (.zeroPage b) s)

/-- ROL zp,X: R192, R128. -/
def execRolZeroPageX (b : Byte) (s : State) : Result :=
  .next (shiftMemory (rolByte (s.flag .carry)) (.zeroPageX b) s)

/-- ROL abs: R192, R131. -/
def execRolAbsolute (w : Addr) (s : State) : Result :=
  .next (shiftMemory (rolByte (s.flag .carry)) (.absolute w) s)

/-- ROL abs,X: R192, R132. -/
def execRolAbsoluteX (w : Addr) (s : State) : Result :=
  .next (shiftMemory (rolByte (s.flag .carry)) (.absoluteX w) s)

/-- ROR A: R193, R125. -/
def execRorAccumulator (s : State) : Result :=
  .next (shiftA (rorByte (s.flag .carry)) s)

/-- ROR zp: R193, R127. -/
def execRorZeroPage (b : Byte) (s : State) : Result :=
  .next (shiftMemory (rorByte (s.flag .carry)) (.zeroPage b) s)

/-- ROR zp,X: R193, R128. -/
def execRorZeroPageX (b : Byte) (s : State) : Result :=
  .next (shiftMemory (rorByte (s.flag .carry)) (.zeroPageX b) s)

/-- ROR abs: R193, R131. -/
def execRorAbsolute (w : Addr) (s : State) : Result :=
  .next (shiftMemory (rorByte (s.flag .carry)) (.absolute w) s)

/-- ROR abs,X: R193, R132. -/
def execRorAbsoluteX (w : Addr) (s : State) : Result :=
  .next (shiftMemory (rorByte (s.flag .carry)) (.absoluteX w) s)

end Sys2Proof.Machine
end

