-- ==== Sys2Proof/Machine/StackStatus.lean ====
section
/-! DEFINITION. Stack and status-flag instructions (spec/47_stack_status.md, R235 to R245). -/

namespace Sys2Proof.Machine

/-- PLA: A from the stack, Z and N from it (R236). -/
def pullA (s : State) : State :=
  let r := s.pull
  (r.2.setA r.1).setZN r.1

/-- PHA: R235, R124. -/
def execPha (s : State) : Result :=
  .next (s.push s.a)

/-- PLA: R236, R124. -/
def execPla (s : State) : Result :=
  .next (pullA s)

/-- PHP: `Push(P | 0x10)`; P itself is unchanged: R237. -/
def execPhp (s : State) : Result :=
  .next (s.push (pushedStatus s.p))

/-- PLP: R238, R124. -/
def execPlp (s : State) : Result :=
  .next s.pullStatus

/-- CLC: R239, R124. -/
def execClc (s : State) : Result :=
  .next (s.setFlag .carry false)

/-- SEC: R240, R124. -/
def execSec (s : State) : Result :=
  .next (s.setFlag .carry true)

/-- CLI: R241, R124. -/
def execCli (s : State) : Result :=
  .next (s.setFlag .interruptDisable false)

/-- SEI: R242, R124. -/
def execSei (s : State) : Result :=
  .next (s.setFlag .interruptDisable true)

/-- CLD: R243, R124. -/
def execCld (s : State) : Result :=
  .next (s.setFlag .decimal false)

/-- SED: R244, R124. -/
def execSed (s : State) : Result :=
  .next (s.setFlag .decimal true)

/-- CLV: R245, R124. -/
def execClv (s : State) : Result :=
  .next (s.setFlag .overflow false)

end Sys2Proof.Machine
end

