-- ==== Sys2Proof/Machine/System.lean ====
section
/-! DEFINITION. BRK, RTI and NOP (spec/48_interrupt_nop.md, R255 to R257). -/

namespace Sys2Proof.Machine

/-- BRK: the padding byte is skipped without a bus access, so the pushed return address is the opcode's
address + 2; then the trap is taken: R255, D8. -/
def execBrk (s : State) : Result :=
  .next (s.takeTrap (s.pc + 1#16))

/-- RTI: R256, R124. -/
def execRti (s : State) : Result :=
  .next s.returnFromTrap

/-- NOP: R257, R124. -/
def execNop (s : State) : Result :=
  .next s

end Sys2Proof.Machine
end

