-- ==== Sys2Proof/Machine/Transfer.lean ====
section
/-! DEFINITION. Loads, stores and register transfers (spec/41_load_store_transfer.md, R150 to R161). -/

namespace Sys2Proof.Machine

/-- `M <- operand(mode); A <- M; SetZN(A)` (R150). -/
def loadA (o : Operand) (s : State) : State :=
  let r := operand o s
  (r.2.setA r.1).setZN r.1

/-- `M <- operand(mode); X <- M; SetZN(X)` (R151). -/
def loadX (o : Operand) (s : State) : State :=
  let r := operand o s
  (r.2.setX r.1).setZN r.1

/-- `M <- operand(mode); Y <- M; SetZN(Y)` (R152). -/
def loadY (o : Operand) (s : State) : State :=
  let r := operand o s
  (r.2.setY r.1).setZN r.1

/-- LDA #: R150, R126. -/
def execLdaImmediate (b : Byte) (s : State) : Result :=
  .next (loadA (.immediate b) s)

/-- LDA zp: R150, R127. -/
def execLdaZeroPage (b : Byte) (s : State) : Result :=
  .next (loadA (.memory (.zeroPage b)) s)

/-- LDA zp,X: R150, R128. -/
def execLdaZeroPageX (b : Byte) (s : State) : Result :=
  .next (loadA (.memory (.zeroPageX b)) s)

/-- LDA abs: R150, R131. -/
def execLdaAbsolute (w : Addr) (s : State) : Result :=
  .next (loadA (.memory (.absolute w)) s)

/-- LDA abs,X: R150, R132. -/
def execLdaAbsoluteX (w : Addr) (s : State) : Result :=
  .next (loadA (.memory (.absoluteX w)) s)

/-- LDA abs,Y: R150, R133. -/
def execLdaAbsoluteY (w : Addr) (s : State) : Result :=
  .next (loadA (.memory (.absoluteY w)) s)

/-- LDA (zp,X): R150, R135. -/
def execLdaIndexedIndirect (b : Byte) (s : State) : Result :=
  .next (loadA (.memory (.indexedIndirect b)) s)

/-- LDA (zp),Y: R150, R136. -/
def execLdaIndirectIndexed (b : Byte) (s : State) : Result :=
  .next (loadA (.memory (.indirectIndexed b)) s)

/-- LDX #: R151, R126. -/
def execLdxImmediate (b : Byte) (s : State) : Result :=
  .next (loadX (.immediate b) s)

/-- LDX zp: R151, R127. -/
def execLdxZeroPage (b : Byte) (s : State) : Result :=
  .next (loadX (.memory (.zeroPage b)) s)

/-- LDX zp,Y: R151, R129. -/
def execLdxZeroPageY (b : Byte) (s : State) : Result :=
  .next (loadX (.memory (.zeroPageY b)) s)

/-- LDX abs: R151, R131. -/
def execLdxAbsolute (w : Addr) (s : State) : Result :=
  .next (loadX (.memory (.absolute w)) s)

/-- LDX abs,Y: R151, R133. -/
def execLdxAbsoluteY (w : Addr) (s : State) : Result :=
  .next (loadX (.memory (.absoluteY w)) s)

/-- LDY #: R152, R126. -/
def execLdyImmediate (b : Byte) (s : State) : Result :=
  .next (loadY (.immediate b) s)

/-- LDY zp: R152, R127. -/
def execLdyZeroPage (b : Byte) (s : State) : Result :=
  .next (loadY (.memory (.zeroPage b)) s)

/-- LDY zp,X: R152, R128. -/
def execLdyZeroPageX (b : Byte) (s : State) : Result :=
  .next (loadY (.memory (.zeroPageX b)) s)

/-- LDY abs: R152, R131. -/
def execLdyAbsolute (w : Addr) (s : State) : Result :=
  .next (loadY (.memory (.absolute w)) s)

/-- LDY abs,X: R152, R132. -/
def execLdyAbsoluteX (w : Addr) (s : State) : Result :=
  .next (loadY (.memory (.absoluteX w)) s)

/-- STA zp: R153, R127. -/
def execStaZeroPage (b : Byte) (s : State) : Result :=
  .next (storeTo (.zeroPage b) s.a s)

/-- STA zp,X: R153, R128. -/
def execStaZeroPageX (b : Byte) (s : State) : Result :=
  .next (storeTo (.zeroPageX b) s.a s)

/-- STA abs: R153, R131. -/
def execStaAbsolute (w : Addr) (s : State) : Result :=
  .next (storeTo (.absolute w) s.a s)

/-- STA abs,X: R153, R132. -/
def execStaAbsoluteX (w : Addr) (s : State) : Result :=
  .next (storeTo (.absoluteX w) s.a s)

/-- STA abs,Y: R153, R133. -/
def execStaAbsoluteY (w : Addr) (s : State) : Result :=
  .next (storeTo (.absoluteY w) s.a s)

/-- STA (zp,X): R153, R135. -/
def execStaIndexedIndirect (b : Byte) (s : State) : Result :=
  .next (storeTo (.indexedIndirect b) s.a s)

/-- STA (zp),Y: R153, R136. -/
def execStaIndirectIndexed (b : Byte) (s : State) : Result :=
  .next (storeTo (.indirectIndexed b) s.a s)

/-- STX zp: R154, R127. -/
def execStxZeroPage (b : Byte) (s : State) : Result :=
  .next (storeTo (.zeroPage b) s.x s)

/-- STX zp,Y: R154, R129. -/
def execStxZeroPageY (b : Byte) (s : State) : Result :=
  .next (storeTo (.zeroPageY b) s.x s)

/-- STX abs: R154, R131. -/
def execStxAbsolute (w : Addr) (s : State) : Result :=
  .next (storeTo (.absolute w) s.x s)

/-- STY zp: R155, R127. -/
def execStyZeroPage (b : Byte) (s : State) : Result :=
  .next (storeTo (.zeroPage b) s.y s)

/-- STY zp,X: R155, R128. -/
def execStyZeroPageX (b : Byte) (s : State) : Result :=
  .next (storeTo (.zeroPageX b) s.y s)

/-- STY abs: R155, R131. -/
def execStyAbsolute (w : Addr) (s : State) : Result :=
  .next (storeTo (.absolute w) s.y s)

/-- TAX: R156, R124. -/
def execTax (s : State) : Result :=
  .next ((s.setX s.a).setZN s.a)

/-- TAY: R157, R124. -/
def execTay (s : State) : Result :=
  .next ((s.setY s.a).setZN s.a)

/-- TSX: R158, R124. -/
def execTsx (s : State) : Result :=
  .next ((s.setX s.sp).setZN s.sp)

/-- TXA: R159, R124. -/
def execTxa (s : State) : Result :=
  .next ((s.setA s.x).setZN s.x)

/-- TXS: `SP <- X`; the one transfer that leaves Z and N alone: R160. -/
def execTxs (s : State) : Result :=
  .next (s.setSp s.x)

/-- TYA: R161, R124. -/
def execTya (s : State) : Result :=
  .next ((s.setA s.y).setZN s.y)

end Sys2Proof.Machine
end

