-- ==== Sys2Proof/Machine/Execute.lean ====
section
/-! DEFINITION. One whole step with everything the spec says it reports: the fetch (R120, R121), the
cycle count (R320, R321), and the state a failing step leaves (R270). `Step.lean` keeps of it what
`Host.Outcome` can carry. -/

namespace Sys2Proof.Machine

/-- Step 1 of R120: `page_crossed <- false; branch_taken <- false`. -/
def State.clearTransients (s : State) : State := (s.setPageCrossed false).setBranchTaken false

/-- The operand bytes of an entry, fetched at PC in ascending order, and the instruction they make
(R120 step 4, R121). -/
def fetchOperands : OperandShape → State → Instr × State
  | .implied i, s => (i, s)
  | .byte mk, s => let r := s.fetchByte; (mk r.1, r.2)
  | .word mk, s => let r := s.fetchWord; (mk r.1, r.2)

/-- What a fetch finds. -/
inductive Fetched where
  /-- A legal instruction, its dispatch entry, and the state with PC past its bytes. -/
  | instruction (e : DispatchEntry) (i : Instr) (s : State)
  /-- An illegal opcode byte, and the state with PC past it and nothing else done (R270). -/
  | illegal (opcode : Byte) (s : State)

/-- Steps 1 to 3 of R120 and the operand fetches of step 4. -/
def fetch (s : State) : Fetched :=
  let op := s.clearTransients.fetchByte
  match dispatch op.1 with
  | none => .illegal op.1 op.2
  | some e =>
    let r := fetchOperands e.shape op.2
    .instruction e r.1 r.2

/-- The cycle count of a successful step, from the entry and the transient booleans as the instruction
left them (R320, C4). -/
def stepCycles (e : DispatchEntry) (s : State) : BitVec 32 :=
  BitVec.ofNat 32
    (e.baseCycles + (if e.pageCrossAdder && s.pageCrossed then 1 else 0) +
      (if e.branchAdder && s.branchTaken then 1 + (if s.pageCrossed then 1 else 0) else 0))

/-- What `step()` reports to its host. -/
inductive StepReport where
  /-- The step succeeded: its cycle count and the next state. -/
  | done (cycles : BitVec 32) (s : State)
  /-- The step failed: the failure, and the state it leaves, from which the host may go on (R270 to
  R272). -/
  | failed (r : Fault) (s : State)
  /-- The model has no meaning for the instruction. -/
  | refused (r : Refusal)
  deriving Repr

/-- `step()` (R120). -/
def hostStep (s : State) : StepReport :=
  match fetch s with
  | .illegal op t => .failed (.illegalOpcode op) t
  | .instruction e i t =>
    match exec i t with
    | .next u => .done (stepCycles e u) u
    | .fault r => .failed r t
    | .refused r => .refused r

/-- The outcome in the host interface's terms: without the cycle count and the failed step's state. -/
def StepReport.outcome : StepReport → Result
  | .done _ s => .next s
  | .failed r _ => .fault r
  | .refused r => .refused r

/-- The three addresses the longest instruction at PC occupies. -/
def fetchAddresses (pc : Addr) : List Addr := [pc, pc + 1#16, pc + 2#16]

/-- The bus with those addresses plain RAM: no device claims one of them and RAM reaches them. A bus of
which that is true already is unchanged. -/
def Bus.exposeRam (b : Bus) (as : List Addr) : Bus :=
  { b with
    ramSize := if as.all (fun a => decide (a.toNat < b.ramSize)) then b.ramSize else Config.maxRamSize
    devices := b.devices.filter (fun d => !as.any (fun a => d.handles a)) }

/-- RAM with bytes at given addresses. -/
def Memory.place : Memory → List (Addr × Byte) → Memory
  | m, [] => m
  | m, (a, v) :: rest => Memory.place (m.write a.toNat v) rest

/-- Put bytes where the next fetch reads them (assumption log 4). -/
def State.placeAtPc (s : State) (bytes : List Byte) : State :=
  let b := s.bus.exposeRam (fetchAddresses s.pc)
  s.setBus { b with mem := b.mem.place ((fetchAddresses s.pc).zip bytes) }

end Sys2Proof.Machine
end

