-- ==== Sys2Proof/Machine/Step.lean ====
section
/-! DEFINITION. The step of the machine in the host interface's terms. -/

namespace Sys2Proof.Machine

/-- One step: one whole instruction (R6, R120), or the IllegalOpcode failure (R270). -/
def step (s : State) : Host.Outcome State Fault Refusal := (hostStep s).outcome

/-- The state with an instruction's word, numbered as the opcode table numbers it, stored where `step`
fetches next. It stands for the host's load of a program (R313, assumption log 4). -/
def State.withFetchWord (s : State) (nbits w : Nat) : State := s.placeAtPc (tableWordBytes nbits w)

end Sys2Proof.Machine
end

