-- ==== Sys2Proof/Machine/HostOps.lean ====
section
/-! DEFINITION. What the host can do to the machine between steps (R330, R38): construct, load, clear,
attach, read and write the bus, construct and reset the CPU, step (`hostStep`), run, read the state,
rebind the bus, submit input, write registers. -/

namespace Sys2Proof.Machine

/-- Why a host operation fails; it then changes nothing (R273). -/
inductive HostError where
  /-- Bus construction or `load` outside RAM (R57, R60). -/
  | outOfRange
  /-- No bus or no device supplied (R273, U13). -/
  | nullDependency
  /-- A bridge with coinciding addresses, refused (R291, D14). -/
  | equalBridgeAddresses
  /-- Input text with a codepoint above 255, refused (R296, D11). -/
  | codepointTooLarge
  /-- The device `submitInput` names is no bridge: the model's own name for a host's slip. -/
  | noSuchBridge
  deriving DecidableEq, Repr

/-- RAM with the contents a `RAM_INIT` function gives (R5). -/
def Memory.ofInit (size : Nat) (init : Nat → Byte) : Memory :=
  ((List.range size).map (fun k => (k, init k))).filter (fun c => c.2 != unlistedByte)

/-- Bus `new(ram_size)`: no device, RAM holding `RAM_INIT` (R2, R5, R60). -/
def Bus.new (size : Nat) (init : Nat → Byte) : Except HostError Bus :=
  if 1 ≤ size ∧ size ≤ Config.maxRamSize then .ok (Bus.bare size (Memory.ofInit size init))
  else .error .outOfRange

/-- `load(start, data)`: straight into RAM, past any device; fails whole where it would pass the end,
the sum taken on unbounded integers (R57). -/
def Bus.load (b : Bus) (start : Addr) (data : List Byte) : Except HostError Bus :=
  if start.toNat + data.length ≤ b.ramSize then
    .ok { b with mem := b.mem.writeAll start.toNat data }
  else .error .outOfRange

/-- `clear()`: every RAM byte 0, devices untouched (R58). The empty list is that RAM, since
`unlistedByte` is 0. -/
def Bus.clear (b : Bus) : Bus := { b with mem := [] }

/-- `attach(device)`: appended at the end (R59); a null device and a bridge with coinciding addresses
are refused (U13, D14). DESIGN CHOICE (assumption logs 16, 19): that `attach` is what refuses them. -/
def Bus.attach (b : Bus) (d : Option Device) : Except HostError Bus :=
  match d with
  | none => .error .nullDependency
  | some d =>
    if d.wf then .ok { b with devices := b.devices ++ [d] } else .error .equalBridgeAddresses

/-- A freshly constructed bridge: FIFO and sink empty (R290, D3). -/
def Bridge.new (out status data : Addr) : Bridge :=
  { outAddr := out, statusAddr := status, dataAddr := data
    fifo := [], sink := [], arrivals := [], fallback := [] }

/-- The bridge at its default addresses (R4). -/
def Bridge.default : Bridge :=
  Bridge.new Config.defaultOutAddr Config.defaultStatusAddr Config.defaultDataAddr

/-- CPU `new(bus)`: binds the bus and performs reset (R311); a null bus is refused (R273). The values
the registers have before that reset do not survive it. -/
def cpuNew (b : Option Bus) : Except HostError State :=
  match b with
  | none => .error .nullDependency
  | some b => .ok ((State.reset.setBus b).resetCpu)

/-- `bus_get()` (R330). -/
def State.busGet (s : State) : Bus := s.bus

/-- `bus_set(bus)`: the same registers on the other bus, no reset implied; never null (D4, R273). -/
def State.busSet (s : State) (b : Option Bus) : Except HostError State :=
  match b with
  | none => .error .nullDependency
  | some b => .ok (s.setBus b)

/-- `state()` (R34, R330). -/
structure Snapshot where
  a : Byte
  x : Byte
  y : Byte
  pc : Addr
  sp : Byte
  p : Byte
  deriving DecidableEq, Repr

/-- `state()`: a snapshot of A, X, Y, PC, SP, P, with no side effect (R34). -/
def State.snapshot (s : State) : Snapshot :=
  { a := s.a, x := s.x, y := s.y, pc := s.pc, sp := s.sp, p := s.p }

/-- The host writes P: Unused 1 and Break 0 whatever it asks for (R38, D2). The host's writes of the
other registers are `State.setA` and its like. -/
def State.hostSetP (s : State) (v : Byte) : State := { s with p := (v &&& 0xEF#8) ||| 0x20#8 }

/-- Append bytes to a bridge's FIFO. -/
def Bridge.enqueue (b : Bridge) (bytes : List Byte) : Bridge := { b with fifo := b.fifo ++ bytes }

/-- `submit_input(text)` on the k-th attached device, which is a bridge (R296); a codepoint above 255
is refused (D11). -/
def Bus.submitInput (b : Bus) (k : Nat) (text : List Nat) : Except HostError Bus :=
  match b.devices[k]? with
  | some (.console br) =>
    if text.all (fun c => decide (c ≤ 255)) then
      .ok { b with devices := b.devices.set k (.console (br.enqueue (text.map (BitVec.ofNat 8)))) }
    else .error .codepointTooLarge
  | _ => .error .noSuchBridge

/-- What `run` shows its predicate (R284), between steps. DESIGN CHOICE (assumption log 23): the spec
names `cpu_view` and does not define it; here it is all there is to see, the accumulated cycles and
the whole State. -/
structure CpuView where
  cycles : BitVec 64
  state : State
  deriving DecidableEq, Repr

/-- A predicate of `run`, with whatever state `σ` of the host's own it keeps from one evaluation to the
next: a deadline's clock readings, a count, the previous PC (R284: hosts that need a timeout "impose it
via the predicate"). It cannot change the machine (DESIGN CHOICE, assumption log 23). -/
abbrev RunPredicate (σ : Type) := σ → CpuView → Bool × σ

/-- The predicate that asks the machine's state only ("run until PC == X" is `PC != X`, C6). -/
def whileState (keepGoing : State → Bool) : RunPredicate Unit := fun h v => (keepGoing v.state, h)

/-- The "run N cycles" budget (R286): go on while fewer than `limit` cycles have been spent. -/
def cycleBudget (limit : BitVec 64) : RunPredicate Unit := fun h v => (decide (v.cycles < limit), h)

/-- What `run` reports, within a bound on its steps; `host` is the predicate's own state. -/
inductive RunReport (σ : Type) where
  /-- The predicate was false: the accumulated cycles (R284). -/
  | stopped (cycles : BitVec 64) (host : σ) (s : State)
  /-- A step failed; the cycles are not returned (R273). -/
  | failed (r : Fault) (host : σ) (s : State)
  | refused (r : Refusal)
  /-- The bound was reached with the predicate still true: the model's own answer, since a `run` whose
  predicate never turns false never returns (R323). The predicate's state is that before the
  evaluation, so that the run can be resumed from here. -/
  | unfinished (cycles : BitVec 64) (host : σ) (s : State)
  deriving Repr

/-- `run(predicate)`: evaluate the predicate; false, answer the accumulated cycles; true, step and add
(R284, C6). At most `bound` steps (log 20), the 64-bit total wrapping (log 12). -/
def runWhile {σ : Type} : Nat → RunPredicate σ → BitVec 64 → σ → State → RunReport σ
  | 0, keepGoing, total, host, s =>
    match keepGoing host { cycles := total, state := s } with
    | (true, _) => .unfinished total host s
    | (false, after) => .stopped total after s
  | bound + 1, keepGoing, total, host, s =>
    match keepGoing host { cycles := total, state := s } with
    | (false, after) => .stopped total after s
    | (true, after) =>
      match hostStep s with
      | .done cycles t => runWhile bound keepGoing (total + cycles.setWidth 64) after t
      | .failed r t => .failed r after t
      | .refused r => .refused r

/-- `run(predicate)` from a total of 0 cycles (R284). -/
def run {σ : Type} (bound : Nat) (keepGoing : RunPredicate σ) (host : σ) (s : State) : RunReport σ :=
  runWhile bound keepGoing 0#64 host s

end Sys2Proof.Machine
end

