-- ==== Sys2Proof/Safety.lean ====
section
/-! DEFINITION. What claims call a lawful state and a safe run. -/

namespace Sys2Proof.Machine

/-- The invariant of the machine: the Unused bit of P is 1 (R26), Break is 0 (R27), and the bus is one
the host operations can make, RAM in canonical form (R2, R31, R291). -/
def State.Inv (s : State) : Prop :=
  s.flag .unused = true ∧ s.flag .break = false ∧ s.bus.wf = true

/-- `n` steps from `s` all succeed: none fails with IllegalOpcode (R331). -/
def SafeFor (n : Nat) (s : State) : Prop := ∃ t, Host.Core.run core n s = .next t

/-- Every run from `s` goes on: no number of steps meets an illegal opcode. -/
def Safe (s : State) : Prop := ∀ n, SafeFor n s

/-- States that some number of steps from `s` reaches. -/
def Reaches (s t : State) : Prop := ∃ n, Host.Core.run core n s = .next t

end Sys2Proof.Machine
end

