-- ==== Sys2Proof/Certificates/Slice0/Obligations.lean ====
section
/-! DEFINITION. The statements for the provers. -/

namespace Sys2Proof.Says
open Sys2Proof.Machine

/-! The vocabulary of the statements: what is kept, and the shape of each kind of instruction. -/

/-- The registers a frame speaks of. -/
inductive Reg where
  | a | x | y | sp | pc
  deriving DecidableEq, Repr

/-- Every register outside `changed` holds what it held. -/
def KeepsRegisters (changed : List Reg) (s t : State) : Prop :=
  (.a ∉ changed → t.a = s.a) ∧ (.x ∉ changed → t.x = s.x) ∧ (.y ∉ changed → t.y = s.y) ∧
    (.sp ∉ changed → t.sp = s.sp) ∧ (.pc ∉ changed → t.pc = s.pc)

/-- P was written through `WriteP`: the Unused bit is 1 (R144), and every other flag outside `changed`
holds what it held. -/
def WritesOnlyFlags (changed : List Flag) (s t : State) : Prop :=
  t.flag .unused = true ∧ ∀ f, f ∉ changed → f ≠ .unused → t.flag f = s.flag f

/-- Every byte of memory outside the stored addresses reads as before: every RAM byte, and, through the
bus, every address no device claims. Which addresses devices claim, and RAM_SIZE, are as before. -/
def KeepsMemoryBut (stored : List Addr) (s t : State) : Prop :=
  (∀ k, (∀ a ∈ stored, k ≠ a.toNat) → t.bus.ramByte k = s.bus.ramByte k) ∧
    (∀ a, a ∉ stored → s.bus.claimed a = false → t.bus.peek a = s.bus.peek a) ∧
    (∀ a, t.bus.claimed a = s.bus.claimed a) ∧ t.bus.ramSize = s.bus.ramSize

/-- The transient booleans are as before. -/
def KeepsTransients (s t : State) : Prop :=
  t.pageCrossed = s.pageCrossed ∧ t.branchTaken = s.branchTaken

/-- Z and N are those of the byte v. -/
def ZeroNegativeOf (v : Byte) (t : State) : Prop :=
  t.flag .zero = decide (v.toNat = 0) ∧ t.flag .negative = decide (128 ≤ v.toNat)

/-- The address mode sets page_crossed by index arithmetic (R132, R133, R136). -/
def Indexed : Operand → Bool
  | .memory (.absoluteX _) | .memory (.absoluteY _) | .memory (.indirectIndexed _) => true
  | _ => false

/-- `i`, whose opcode is `op`, reads the operand `o` exactly as the mode says, stores nothing, completes
in every state, and has the effect `effect M s t` of the operand byte M; its entry charges a page
crossing exactly in the indexed modes. -/
def Reads (op : Byte) (i : Instr) (o : Operand) (effect : Byte → State → State → Prop) : Prop :=
  i.opcode = op ∧ (dispatch op).map (fun e => e.pageCrossAdder) = some (Indexed o) ∧
    ∀ s, ∃ t, exec i s = .next t ∧ effect (operand o s).1 s t ∧
      t.bus = (operand o s).2.bus ∧ t.pageCrossed = (operand o s).2.pageCrossed ∧
      t.branchTaken = s.branchTaken ∧ KeepsMemoryBut [] s t

/-- `i`, whose opcode is `op`, makes exactly one write, of the byte `v s`, at the effective address of
`m`; no register, no flag; no page-cross charge. -/
def Stores (op : Byte) (i : Instr) (m : MemMode) (v : State → Byte) : Prop :=
  i.opcode = op ∧ (dispatch op).map (fun e => e.pageCrossAdder) = some false ∧
    ∀ s, ∃ t, exec i s = .next t ∧
      t.bus = (address m s).2.bus.write (address m s).1 (v s) ∧
      t.p = s.p ∧ KeepsRegisters [] s t ∧ KeepsMemoryBut [(address m s).1] s t ∧
      t.pageCrossed = (address m s).2.pageCrossed ∧ t.branchTaken = s.branchTaken

/-- `i`, whose opcode is `op`, reads and then writes the effective address of `m` once each, the byte
written being `result c M`; Z and N are those of that byte, and each flag of `carry` (none or C) is
`newCarry M`; no register changes; no page-cross charge. -/
def Modifies (op : Byte) (i : Instr) (m : MemMode) (result : Bool → Nat → Nat)
    (carry : List Flag) (newCarry : Nat → Bool) : Prop :=
  i.opcode = op ∧ (dispatch op).map (fun e => e.pageCrossAdder) = some false ∧
    ∀ s, ∃ t, ∃ r : Byte, exec i s = .next t ∧
      r.toNat = result (s.flag .carry) ((address m s).2.bus.peek (address m s).1).toNat ∧
      t.bus = ((address m s).2.bus.read (address m s).1).2.write (address m s).1 r ∧
      ZeroNegativeOf r t ∧
      (∀ f ∈ carry, t.flag f = newCarry ((address m s).2.bus.peek (address m s).1).toNat) ∧
      WritesOnlyFlags (carry ++ [.zero, .negative]) s t ∧ KeepsRegisters [] s t ∧
      KeepsMemoryBut [(address m s).1] s t ∧
      t.pageCrossed = (address m s).2.pageCrossed ∧ t.branchTaken = s.branchTaken

/-- `i`, whose opcode is `op`, makes no bus access and touches no transient boolean; it completes in
every state with the effect `effect s t`. -/
def RegisterOnly (op : Byte) (i : Instr) (effect : State → State → Prop) : Prop :=
  i.opcode = op ∧ ∀ s, ∃ t, exec i s = .next t ∧ effect s t ∧ t.bus = s.bus ∧
    KeepsTransients s t

/-- `i`, whose opcode is `op`, is a branch by the displacement byte `b` on the condition `cond` (R215).
PC is the address of the following instruction when its action begins (R120). -/
def Branches (op : Byte) (i : Instr) (b : Byte) (cond : State → Bool) : Prop :=
  i.opcode = op ∧ ∀ s,
    (cond s = false → exec i s = .next s) ∧
    (cond s = true → ∃ t, exec i s = .next t ∧
      (t.pc.toNat : Int) = ((s.pc.toNat : Int) + b.toInt) % 65536 ∧
      t.branchTaken = true ∧ t.pageCrossed = decide (t.pc.toNat / 256 ≠ s.pc.toNat / 256) ∧
      t.p = s.p ∧ KeepsRegisters [.pc] s t ∧ t.bus = s.bus)

/-- A flag as a number. -/
def num (c : Bool) : Nat := if c then 1 else 0

/-- `BcdVal(v)` (R173). -/
def bcd (v : Byte) : Nat := (v.toNat / 16) * 10 + v.toNat % 16

/-- Bytes fetched one after another at PC, each advancing it (R121). -/
def fetchBytes : Nat → State → List Byte × State
  | 0, s => ([], s)
  | n + 1, s =>
    let r := s.fetchByte
    let q := fetchBytes n r.2
    (r.1 :: q.1, q.2)

/-- The 105 illegal opcode bytes, from the table of R96. -/
def illegalBytes : List Byte :=
  [0x02#8, 0x03#8, 0x04#8, 0x07#8, 0x0B#8, 0x0C#8, 0x0F#8] ++
  [0x12#8, 0x13#8, 0x14#8, 0x17#8, 0x1A#8, 0x1B#8, 0x1C#8, 0x1F#8] ++
  [0x22#8, 0x23#8, 0x27#8, 0x2B#8, 0x2F#8] ++
  [0x32#8, 0x33#8, 0x34#8, 0x37#8, 0x3A#8, 0x3B#8, 0x3C#8, 0x3F#8] ++
  [0x42#8, 0x43#8, 0x44#8, 0x47#8, 0x4B#8, 0x4F#8] ++
  [0x52#8, 0x53#8, 0x54#8, 0x57#8, 0x5A#8, 0x5B#8, 0x5C#8, 0x5F#8] ++
  [0x62#8, 0x63#8, 0x64#8, 0x67#8, 0x6B#8, 0x6F#8] ++
  [0x72#8, 0x73#8, 0x74#8, 0x77#8, 0x7A#8, 0x7B#8, 0x7C#8, 0x7F#8] ++
  [0x80#8, 0x82#8, 0x83#8, 0x87#8, 0x89#8, 0x8B#8, 0x8F#8] ++
  [0x92#8, 0x93#8, 0x97#8, 0x9B#8, 0x9C#8, 0x9E#8, 0x9F#8] ++
  [0xA3#8, 0xA7#8, 0xAB#8, 0xAF#8] ++
  [0xB2#8, 0xB3#8, 0xB7#8, 0xBB#8, 0xBF#8] ++
  [0xC2#8, 0xC3#8, 0xC7#8, 0xCB#8, 0xCF#8] ++
  [0xD2#8, 0xD3#8, 0xD4#8, 0xD7#8, 0xDA#8, 0xDB#8, 0xDC#8, 0xDF#8] ++
  [0xE2#8, 0xE3#8, 0xE7#8, 0xEB#8, 0xEF#8] ++
  [0xF2#8, 0xF3#8, 0xF4#8, 0xF7#8, 0xFA#8, 0xFB#8, 0xFC#8, 0xFF#8]

/-- The mnemonics whose memory forms read, modify and write (R139, R321). -/
def readModifyWrites : List Mnemonic := [.asl, .lsr, .rol, .ror, .inc, .dec]

/-- The base cycle count of a mnemonic in a mode: R321's table and the line "Others" below it. It is
the default of a parameter (assumption log 12). -/
def defaultBase (m : Mnemonic) (md : AddressingMode) : Nat :=
  match md with
  | .immediate | .accumulator | .relative => 2
  | .zeroPage => if m ∈ readModifyWrites then 5 else 3
  | .zeroPageX | .zeroPageY => if m ∈ readModifyWrites then 6 else 4
  | .absolute =>
    if m = .jmp then 3 else if m = .jsr ∨ m ∈ readModifyWrites then 6 else 4
  | .absoluteX | .absoluteY =>
    if m ∈ readModifyWrites then 7 else if m ∈ [.sta, .stx, .sty] then 5 else 4
  | .indirect => 5
  | .indexedIndirect => 6
  | .indirectIndexed => if m ∈ [.sta, .stx, .sty] then 6 else 5
  | .implicit =>
    if m = .brk then 7 else if m = .rts ∨ m = .rti then 6
    else if m = .pla ∨ m = .plp then 4 else if m = .pha ∨ m = .php then 3 else 2

/-- The flags each mnemonic may write, from the table of R29. -/
def writtenFlags : Mnemonic → List Flag
  | .lda | .ldx | .ldy | .tax | .tay | .txa | .tya | .tsx | .and | .ora | .eor | .inc | .dec
  | .inx | .dex | .iny | .dey | .pla => [.zero, .negative]
  | .sta | .stx | .sty | .txs | .bpl | .bmi | .bvc | .bvs | .bcc | .bcs | .bne | .beq | .jmp
  | .jsr | .rts | .pha | .php | .nop => []
  | .adc | .sbc => [.carry, .overflow, .zero, .negative]
  | .bit => [.zero, .negative, .overflow]
  | .asl | .lsr | .rol | .ror | .cmp | .cpx | .cpy => [.carry, .zero, .negative]
  | .plp | .rti => [.carry, .zero, .interruptDisable, .decimal, .break, .overflow, .negative]
  | .clc | .sec => [.carry]
  | .cli | .sei | .brk => [.interruptDisable]
  | .cld | .sed => [.decimal]
  | .clv => [.overflow]

/-- The registers an instruction may write, from the table of R29; a shift writes A in its Accumulator
form only. -/
def writtenRegisters (i : Instr) : List Reg :=
  match i.mnemonic with
  | .lda | .txa | .tya | .adc | .sbc | .and | .ora | .eor => [.a]
  | .ldx | .tax | .tsx | .inx | .dex => [.x]
  | .ldy | .tay | .iny | .dey => [.y]
  | .txs | .pha | .php | .plp => [.sp]
  | .pla => [.a, .sp]
  | .asl | .lsr | .rol | .ror => if i.mode = .accumulator then [.a] else []
  | .bpl | .bmi | .bvc | .bvs | .bcc | .bcs | .bne | .beq | .jmp => [.pc]
  | .jsr | .rts | .brk | .rti => [.pc, .sp]
  | .sta | .stx | .sty | .inc | .dec | .bit | .cmp | .cpx | .cpy | .clc | .sec | .cli | .sei
  | .cld | .sed | .clv | .nop => []

/-- The mnemonics of which no form writes memory or the stack, from the table of R29; a shift is
listed by its Accumulator form. -/
def storesNothing (i : Instr) : Bool :=
  match i.mnemonic with
  | .sta | .stx | .sty | .inc | .dec | .jsr | .pha | .php | .brk => false
  | .asl | .lsr | .rol | .ror => decide (i.mode = .accumulator)
  | .lda | .ldx | .ldy | .tax | .tay | .tsx | .txa | .txs | .tya | .adc | .sbc | .and | .ora
  | .eor | .bit | .inx | .iny | .dex | .dey | .cmp | .cpx | .cpy | .bpl | .bmi | .bvc | .bvs
  | .bcc | .bcs | .bne | .beq | .jmp | .rts | .pla | .plp | .clc | .sec | .cli | .sei | .cld
  | .sed | .clv | .rti | .nop => true

end Sys2Proof.Says

open Sys2Proof Sys2Proof.Machine Sys2Proof.Says

/-! Encoding and decoding. -/

/-- Each of the nine byte strings of R100 decodes to the instruction its row names, with nothing left over. -/
def Obligations.AttestedBytesDecode : Prop :=
  decode [0xA9#8, 0x41#8] = .ok (.ldaImmediate 0x41#8, []) ∧
  decode [0x8D#8, 0x01#8, 0xF0#8] = .ok (.staAbsolute 0xF001#16, []) ∧
  decode [0x00#8] = .ok (.brk, []) ∧
  decode [0x20#8, 0x00#8, 0x90#8] = .ok (.jsr 0x9000#16, []) ∧
  decode [0xEE#8, 0x00#8, 0x02#8] = .ok (.incAbsolute 0x0200#16, []) ∧
  decode [0xAD#8, 0x00#8, 0x02#8] = .ok (.ldaAbsolute 0x0200#16, []) ∧
  decode [0x60#8] = .ok (.rts, []) ∧
  decode [0x69#8, 0x50#8] = .ok (.adcImmediate 0x50#8, []) ∧
  decode [0xF0#8, 0x02#8] = .ok (.beq 0x02#8, [])

/-- For every instruction i, with every operand value, and every list of bytes that follows, decode (encode i followed by them) is i with exactly those bytes left over; and every instruction is well-formed. -/
def Obligations.DecodeOfEncodeIsTheInstruction : Prop :=
  ∀ (i : Instr) (rest : List Byte), i.wellFormed = true ∧
    decode (encode i ++ rest) = .ok (i, rest)

/-- If bytes decode to i with a rest, then the bytes are encode i followed by that rest. -/
def Obligations.DecodedBytesAreTheEncoding : Prop :=
  ∀ (bs : List Byte) (i : Instr) (rest : List Byte), decode bs = .ok (i, rest) →
    bs = encode i ++ rest

/-- The list of R96 has 105 different bytes; an opcode byte has no dispatch entry exactly when it is one of them; and in every state, when the byte read at PC is one of them, the step faults with IllegalOpcode of that byte, and otherwise the step answers a next state. -/
def Obligations.IllegalOpcodesFailTheStep : Prop :=
  illegalBytes.length = 105 ∧ illegalBytes.Nodup ∧
    (∀ op, dispatch op = none ↔ op ∈ illegalBytes) ∧
    ∀ s : State,
      (s.bus.peek s.pc ∈ illegalBytes → step s = .fault (.illegalOpcode (s.bus.peek s.pc))) ∧
      (s.bus.peek s.pc ∉ illegalBytes → ∃ t, step s = .next t)

/-- For every instruction, its opcode selects an entry of its own mnemonic and mode, its encoding is one byte longer than the operand bytes R91 gives that mode, and the decoder consumes exactly so many bytes. -/
def Obligations.LengthFollowsMode : Prop :=
  ∀ i : Instr, (∃ e, dispatch i.opcode = some e ∧ e.mnemonic = i.mnemonic ∧ e.mode = i.mode) ∧
    (encode i).length = 1 + (match i.mode with
      | .implicit | .accumulator => 0
      | .immediate | .zeroPage | .zeroPageX | .zeroPageY | .relative | .indexedIndirect
      | .indirectIndexed => 1
      | .absolute | .absoluteX | .absoluteY | .indirect => 2) ∧
    ∀ rest, ∃ left, decode (encode i ++ rest) = .ok (i, left) ∧
      left.length = (encode i ++ rest).length - (encode i).length

/-! The step. -/

/-- In every state, if the bytes fetched at PC, one after another after the transient booleans are cleared, decode to i with none left over, then the step is exec i at the state those fetches leave. -/
def Obligations.StepRunsDecodedInstruction : Prop :=
  ∀ (s : State) (i : Instr),
    decode (fetchBytes (encode i).length s.clearTransients).1 = .ok (i, []) →
    step s = exec i (fetchBytes (encode i).length s.clearTransients).2

/-- In every state, if the addresses from PC on that the encoding of i takes (wrapping at 0xFFFF) are RAM no device claims and hold that encoding, then the step is exec i at the same state with both transient booleans false and PC advanced by the length. -/
def Obligations.StepInPlainRamRunsInstruction : Prop :=
  ∀ (s : State) (i : Instr),
    (∀ k : Nat, k < (encode i).length → s.bus.isRam (s.pc + BitVec.ofNat 16 k) = true ∧
      (encode i)[k]? = some (s.bus.ramByte (s.pc + BitVec.ofNat 16 k).toNat)) →
    step s = exec i { s with
      pc := s.pc + BitVec.ofNat 16 (encode i).length
      pageCrossed := false
      branchTaken := false }

/-- When the byte read at PC has no dispatch entry, hostStep fails with IllegalOpcode of that byte and leaves PC one further (mod 65536), A, X, Y, SP and P as they were, the bus with the effect of that one read, and both transient booleans false; step answers that fault. -/
def Obligations.IllegalOpcodeLeavesOnlyPcAdvanced : Prop :=
  ∀ s : State, dispatch (s.bus.peek s.pc) = none →
    step s = .fault (.illegalOpcode (s.bus.peek s.pc)) ∧
    ∃ t, hostStep s = .failed (.illegalOpcode (s.bus.peek s.pc)) t ∧
      t.pc.toNat = (s.pc.toNat + 1) % 65536 ∧ t.p = s.p ∧ KeepsRegisters [.pc] s t ∧
      t.bus = (s.bus.read s.pc).2 ∧ t.pageCrossed = false ∧ t.branchTaken = false

/-- Every step that succeeds returns base, plus one if the entry has the page-cross adder and page_crossed is set, plus, if the entry has the branch adder and branch_taken is set, one and one more if page_crossed; base and adders are those of the entry of the opcode byte read at PC; no count exceeds 7, and a count is 7 if and only if the entry is BRK or an AbsoluteX read-modify-write form; and in every state whose byte at PC is the opcode of one of these seven, the step succeeds and returns 7. -/
def Obligations.CycleCountFormula : Prop :=
  ∀ s : State,
    (∀ (c : BitVec 32) (t : State), hostStep s = .done c t →
      ∃ e, dispatch (s.bus.peek s.pc) = some e ∧
        c.toNat = e.baseCycles + (if e.pageCrossAdder = true ∧ t.pageCrossed = true then 1 else 0) +
          (if e.branchAdder = true ∧ t.branchTaken = true then
            1 + (if t.pageCrossed = true then 1 else 0) else 0) ∧
        c.toNat ≤ 7 ∧
        (c.toNat = 7 ↔ e.mnemonic = .brk ∨ (e.mode = .absoluteX ∧
          e.mnemonic ∈ [.asl, .lsr, .rol, .ror, .inc, .dec]))) ∧
    (s.bus.peek s.pc ∈ [0x00#8, 0x1E#8, 0x5E#8, 0x3E#8, 0x7E#8, 0xFE#8, 0xDE#8] →
      ∃ t, hostStep s = .done 7#32 t)

/-- For every state with P.U = 1, P.B = 0 and a lawful bus (1 to 65536 bytes of RAM, RAM list in canonical form and inside it, bridge addresses distinct), if the step answers a next state, that state has all of this too. -/
def Obligations.StepKeepsStateLawful : Prop :=
  ∀ s t : State, s.Inv → step s = .next t → t.Inv

/-- State.reset has P.U = 1, P.B = 0 and a lawful bus. -/
def Obligations.ResetIsLawful : Prop :=
  State.reset.Inv

/-- For every state that meets the invariant, the state a failing step leaves to the host meets it. -/
def Obligations.FailedStepKeepsStateLawful : Prop :=
  ∀ (s t : State) (r : Fault), s.Inv → hostStep s = .failed r t → t.Inv

/-! Whole-machine rules over all instructions. -/

/-- For every instruction and state, exec answers a next state in which every register outside the list of R29 and every flag outside it (the Unused bit apart, which any write of P sets) is unchanged; PC is among the written registers only of the branches, JMP, JSR, RTS, RTI and BRK. -/
def Obligations.OnlyListedStateIsWritten : Prop :=
  ∀ (i : Instr) (s : State), ∃ t, exec i s = .next t ∧
    KeepsRegisters (writtenRegisters i) s t ∧
    ∀ f, f ∉ writtenFlags i.mnemonic → f ≠ .unused → t.flag f = s.flag f

/-- For every instruction that R29 lists as writing no memory (shifts in their Accumulator form among them) and every state, exec answers a next state in which every byte of memory reads as before. -/
def Obligations.OnlyListedInstructionsStore : Prop :=
  ∀ (i : Instr) (s : State), storesNothing i = true →
    ∃ t, exec i s = .next t ∧ KeepsMemoryBut [] s t

/-! The bus, its devices and RAM. -/

/-- A read at an address that some device claims is answered by the first claiming device in attachment order, which alone may change, and RAM is not touched; with no claimant it gives the RAM byte below RAM_SIZE and 0xFF above, and changes nothing. -/
def Obligations.BusReadRoutes : Prop :=
  ∀ (b : Bus) (a : Addr),
    (∀ pre d post, b.devices = pre ++ d :: post → (∀ e ∈ pre, e.handles a = false) →
      d.handles a = true →
      b.read a = ((d.read a).1, { b with devices := pre ++ (d.read a).2 :: post })) ∧
    ((∀ d ∈ b.devices, d.handles a = false) → a.toNat < b.ramSize →
      b.read a = (b.ramByte a.toNat, b)) ∧
    ((∀ d ∈ b.devices, d.handles a = false) → b.ramSize ≤ a.toNat → b.read a = (0xFF#8, b))

/-- A write at an address that some device claims goes to the first claiming device in attachment order, and RAM is not written; with no claimant it replaces exactly that RAM byte below RAM_SIZE, in a lawful RAM, and changes nothing above. -/
def Obligations.BusWriteRoutes : Prop :=
  ∀ (b : Bus) (a : Addr) (v : Byte),
    (∀ pre d post, b.devices = pre ++ d :: post → (∀ e ∈ pre, e.handles a = false) →
      d.handles a = true →
      b.write a v = { b with devices := pre ++ d.write a v :: post }) ∧
    ((∀ d ∈ b.devices, d.handles a = false) → a.toNat < b.ramSize →
      (b.write a v).devices = b.devices ∧ (b.write a v).ramSize = b.ramSize ∧
      (b.mem.wf = true → (b.write a v).ramByte a.toNat = v) ∧
      ∀ k, k ≠ a.toNat → (b.write a v).ramByte k = b.ramByte k) ∧
    ((∀ d ∈ b.devices, d.handles a = false) → b.ramSize ≤ a.toNat → b.write a v = b)

/-- For a bridge with distinct addresses: it handles exactly its three addresses; a read of OutputData returns 0 and changes nothing; a read of InputStatus returns 1 or 0 as the FIFO is non-empty; a read of InputData returns and removes the oldest byte of a non-empty FIFO, else consults the fallback and returns its byte, else 0. The FIFO is the one the asynchronous producer has left by then (arrive; assumption logs 8 and 9 hold the producer's and the fallback's form). -/
def Obligations.BridgeReads : Prop :=
  ∀ b : Bridge, b.wf = true →
    (∀ a, b.handles a = true ↔ a = b.outAddr ∨ a = b.statusAddr ∨ a = b.dataAddr) ∧
    b.read b.outAddr = (0x00#8, b) ∧
    b.read b.statusAddr = (if b.arrive.fifo = [] then 0x00#8 else 0x01#8, b.arrive) ∧
    (∀ c queue, b.arrive.fifo = c :: queue →
      b.read b.dataAddr = (c, { b.arrive with fifo := queue })) ∧
    (b.arrive.fifo = [] →
      (b.arrive.fallback = [] → b.read b.dataAddr = (0x00#8, b.arrive)) ∧
      (∀ later, b.arrive.fallback = none :: later →
        b.read b.dataAddr = (0x00#8, { b.arrive with fallback := later })) ∧
      (∀ c later, b.arrive.fallback = some c :: later →
        b.read b.dataAddr = (c, { b.arrive with fallback := later }))) ∧
    (b.arrivals = [] → b.arrive = b) ∧
    (∀ chunk later, b.arrivals = chunk :: later →
      b.arrive = { b with fifo := b.fifo ++ chunk, arrivals := later })

/-- A write of OutputData appends exactly that byte to the output sink and changes nothing else; for a bridge with distinct addresses, writes of InputStatus and InputData change nothing. -/
def Obligations.BridgeWrites : Prop :=
  ∀ (b : Bridge) (v : Byte),
    b.write b.outAddr v = { b with sink := b.sink ++ [v] } ∧
    (b.wf = true → b.write b.statusAddr v = b ∧ b.write b.dataAddr v = b)

/-- Bus construction succeeds exactly for 1 to 65536 bytes, then gives a lawful bus with no device whose RAM holds RAM_INIT; load, clear, attach and submit_input keep a lawful bus lawful whenever they succeed. -/
def Obligations.HostOperationsKeepBusLawful : Prop :=
  (∀ size init, (1 ≤ size ∧ size ≤ 65536 → ∃ b, Bus.new size init = .ok b ∧ b.wf = true ∧
      b.devices = [] ∧ b.ramSize = size ∧ ∀ k, k < size → b.ramByte k = init k) ∧
    (¬ (1 ≤ size ∧ size ≤ 65536) → Bus.new size init = .error .outOfRange)) ∧
  ∀ b : Bus, b.wf = true →
    b.clear.wf = true ∧
    (∀ start data b', b.load start data = .ok b' → b'.wf = true) ∧
    (∀ d b', b.attach d = .ok b' → b'.wf = true) ∧
    (∀ k text b', b.submitInput k text = .ok b' → b'.wf = true)

/-- For a bus with RAM in canonical form: when start + length (unbounded) is at most RAM_SIZE, load succeeds, the bytes stand at start onward, every other RAM byte and the devices are unchanged; otherwise it fails with OutOfRange. -/
def Obligations.LoadCopiesOrFails : Prop :=
  ∀ (b : Bus) (start : Addr) (data : List Byte), b.mem.wf = true →
    (start.toNat + data.length ≤ b.ramSize → ∃ b', b.load start data = .ok b' ∧
      b'.devices = b.devices ∧ b'.ramSize = b.ramSize ∧
      (∀ k v, data[k]? = some v → b'.ramByte (start.toNat + k) = v) ∧
      (∀ k, k < start.toNat ∨ start.toNat + data.length ≤ k → b'.ramByte k = b.ramByte k)) ∧
    (b.ramSize < start.toNat + data.length → b.load start data = .error .outOfRange)

/-- clear makes every RAM byte 0 and leaves the devices and RAM_SIZE; attach of a device appends it at the end, leaving RAM; a null device and a bridge with coinciding addresses are refused. (That attach is the operation which refuses is the model's choice: assumption log 19 for the null device, log 16 for the coinciding addresses.) -/
def Obligations.ClearAndAttach : Prop :=
  ∀ b : Bus, (∀ k, b.clear.ramByte k = 0x00#8) ∧ b.clear.devices = b.devices ∧
    b.clear.ramSize = b.ramSize ∧
    b.attach none = .error .nullDependency ∧
    (∀ d : Device, d.wf = true →
      b.attach (some d) = .ok { b with devices := b.devices ++ [d] }) ∧
    (∀ br : Bridge, br.outAddr = br.statusAddr ∨ br.outAddr = br.dataAddr ∨
      br.statusAddr = br.dataAddr → b.attach (some (.console br)) = .error .equalBridgeAddresses)

/-- For every predicate, with whatever state of the host's own it keeps, and every total: run is the loop from a total of 0; when the predicate answers false the loop returns exactly the accumulated total and the machine unchanged, so run returns 0 if its first evaluation is false; when it answers true and a step is left, a successful step adds its cycles and the loop goes on from its state with the predicate's new state, and a failing step ends the run with that failure. (Three points are the model's choice: the bound on the number of steps, assumption log 20; that the 64-bit total wraps, log 12; what the predicate sees and that it cannot change the machine, log 23.) -/
def Obligations.RunLoopsWhilePredicateHolds : Prop :=
  ∀ (σ : Type) (n : Nat) (keepGoing : RunPredicate σ) (total : BitVec 64) (host after : σ)
    (s : State),
    run n keepGoing host s = runWhile n keepGoing 0#64 host s ∧
    (keepGoing host { cycles := total, state := s } = (false, after) →
      runWhile n keepGoing total host s = .stopped total after s) ∧
    (keepGoing host { cycles := 0#64, state := s } = (false, after) →
      run n keepGoing host s = .stopped 0#64 after s) ∧
    (keepGoing host { cycles := total, state := s } = (true, after) →
      (∀ c t, hostStep s = .done c t →
        runWhile (n + 1) keepGoing total host s =
          runWhile n keepGoing (total + BitVec.ofNat 64 c.toNat) after t) ∧
      (∀ r t, hostStep s = .failed r t →
        runWhile (n + 1) keepGoing total host s = .failed r after t))

/-- In every state the reset operation sets A, X, Y to 0, SP to 0xFD, P to 0x24, reads 0xFFFC then 0xFFFD, sets PC to the little-endian word read, and leaves every byte of memory. -/
def Obligations.ResetSetsRegisters : Prop :=
  ∀ s : State, s.resetCpu.a = 0x00#8 ∧ s.resetCpu.x = 0x00#8 ∧ s.resetCpu.y = 0x00#8 ∧
    s.resetCpu.sp = 0xFD#8 ∧ s.resetCpu.p = 0x24#8 ∧
    (s.resetCpu.flag .interruptDisable = true ∧ s.resetCpu.flag .unused = true ∧
      ∀ f, f ≠ .interruptDisable → f ≠ .unused → s.resetCpu.flag f = false) ∧
    s.resetCpu.pc.toNat = (s.bus.read 0xFFFC#16).1.toNat +
      256 * ((s.bus.read 0xFFFC#16).2.read 0xFFFD#16).1.toNat ∧
    s.resetCpu.bus = ((s.bus.read 0xFFFC#16).2.read 0xFFFD#16).2 ∧
    KeepsMemoryBut [] s s.resetCpu

/-! The addressing-mode engine. -/

/-- FetchByte gives the bus byte at PC and leaves PC one further modulo 65536; FetchWord fetches two bytes, the low one first; nothing else changes. -/
def Obligations.FetchReadsAtPc : Prop :=
  ∀ s : State,
    s.fetchByte.1 = (s.bus.read s.pc).1 ∧ s.fetchByte.2.bus = (s.bus.read s.pc).2 ∧
    s.fetchByte.2.pc.toNat = (s.pc.toNat + 1) % 65536 ∧ s.fetchByte.2.p = s.p ∧
    KeepsRegisters [.pc] s s.fetchByte.2 ∧ KeepsTransients s s.fetchByte.2 ∧
    s.fetchWord.1.toNat = s.fetchByte.1.toNat + 256 * s.fetchByte.2.fetchByte.1.toNat ∧
    s.fetchWord.2 = s.fetchByte.2.fetchByte.2

/-- ReadWordBug(a) reads a, then the address with the page of a and its low byte plus one modulo 256, and gives the little-endian word; where the low byte of a is not 0xFF it equals ReadWord(a); nothing but the bus changes. -/
def Obligations.IndirectJumpPointerStaysInPage : Prop :=
  ∀ (s : State) (a partner : Addr),
    partner.toNat = a.toNat / 256 * 256 + (a.toNat % 256 + 1) % 256 →
    (s.readWordBug a).1.toNat =
      (s.bus.read a).1.toNat + 256 * ((s.bus.read a).2.read partner).1.toNat ∧
    (s.readWordBug a).2 = { s with bus := ((s.bus.read a).2.read partner).2 } ∧
    (a.toNat % 256 ≠ 255 → s.readWordBug a = s.readWord a)

/-- The effective address of ZeroPage is b, of ZeroPageX (b + X) mod 256, of ZeroPageY (b + Y) mod 256, and the state (page_crossed with it) is unchanged. -/
def Obligations.ZeroPageModesStayInPageZero : Prop :=
  ∀ (s : State) (b : Byte),
    (address (.zeroPage b) s).1.toNat = b.toNat ∧ (address (.zeroPage b) s).2 = s ∧
    (address (.zeroPageX b) s).1.toNat = (b.toNat + s.x.toNat) % 256 ∧
    (address (.zeroPageX b) s).2 = s ∧
    (address (.zeroPageY b) s).1.toNat = (b.toNat + s.y.toNat) % 256 ∧
    (address (.zeroPageY b) s).2 = s

/-- The effective address of Absolute is the word with the state unchanged; of AbsoluteX and AbsoluteY the word plus X or Y modulo 65536, with page_crossed set exactly when the high byte of the address differs from the word's, and nothing else changed. -/
def Obligations.AbsoluteModesIndexAndFlagPages : Prop :=
  ∀ (s : State) (w : Addr),
    address (.absolute w) s = (w, s) ∧
    (address (.absoluteX w) s).1.toNat = (w.toNat + s.x.toNat) % 65536 ∧
    (address (.absoluteX w) s).2 = { s with
      pageCrossed := decide ((w.toNat + s.x.toNat) % 65536 / 256 ≠ w.toNat / 256) } ∧
    (address (.absoluteY w) s).1.toNat = (w.toNat + s.y.toNat) % 65536 ∧
    (address (.absoluteY w) s).2 = { s with
      pageCrossed := decide ((w.toNat + s.y.toNat) % 65536 / 256 ≠ w.toNat / 256) }

/-- For the addresses lo and hi at (b + X) mod 256 and one further mod 256, IndexedIndirect reads lo then hi and its effective address is the little-endian word, page_crossed unchanged; for b and (b + 1) mod 256, IndirectIndexed does so and adds Y modulo 65536, page_crossed set exactly when the high byte changes. -/
def Obligations.IndirectDataModesReadPageZeroPointers : Prop :=
  ∀ (s : State) (b : Byte) (lo hi : Addr),
    (lo.toNat = (b.toNat + s.x.toNat) % 256 → hi.toNat = (b.toNat + s.x.toNat + 1) % 256 →
      (address (.indexedIndirect b) s).1.toNat =
        (s.bus.read lo).1.toNat + 256 * ((s.bus.read lo).2.read hi).1.toNat ∧
      (address (.indexedIndirect b) s).2 =
        { s with bus := ((s.bus.read lo).2.read hi).2 }) ∧
    (lo.toNat = b.toNat → hi.toNat = (b.toNat + 1) % 256 → ∀ w : Nat,
      w = (s.bus.read lo).1.toNat + 256 * ((s.bus.read lo).2.read hi).1.toNat →
      (address (.indirectIndexed b) s).1.toNat = (w + s.y.toNat) % 65536 ∧
      (address (.indirectIndexed b) s).2 =
        { s with
          bus := ((s.bus.read lo).2.read hi).2
          pageCrossed := decide ((w + s.y.toNat) % 65536 / 256 ≠ w / 256) })

/-- The operand of an immediate mode is that byte with the state unchanged; of a memory mode it is the byte one bus read at the effective address gives, and beyond the mode's own reads only that read touches the bus. -/
def Obligations.OperandIsOneReadAtTheEffectiveAddress : Prop :=
  ∀ (s : State) (b : Byte) (m : MemMode),
    operand (.immediate b) s = (b, s) ∧
    (operand (.memory m) s).1 = ((address m s).2.bus.read (address m s).1).1 ∧
    (operand (.memory m) s).2 =
      { (address m s).2 with bus := ((address m s).2.bus.read (address m s).1).2 }

/-- For the address at 256 plus SP, Push writes the byte there once and leaves SP one lower modulo 256; for the address at 256 plus (SP + 1) mod 256, Pull leaves SP there and gives the byte read at it; nothing else changes. -/
def Obligations.PushAndPull : Prop :=
  ∀ (s : State) (v : Byte) (a : Addr),
    (a.toNat = 256 + s.sp.toNat →
      (s.push v).bus = s.bus.write a v ∧ (s.push v).sp.toNat = (s.sp.toNat + 255) % 256 ∧
      (s.push v).p = s.p ∧ KeepsRegisters [.sp] s (s.push v) ∧ KeepsTransients s (s.push v) ∧
      KeepsMemoryBut [a] s (s.push v)) ∧
    (a.toNat = 256 + (s.sp.toNat + 1) % 256 →
      s.pull.1 = (s.bus.read a).1 ∧ s.pull.2.bus = (s.bus.read a).2 ∧
      s.pull.2.sp.toNat = (s.sp.toNat + 1) % 256 ∧ s.pull.2.p = s.p ∧
      KeepsRegisters [.sp] s s.pull.2 ∧ KeepsTransients s s.pull.2 ∧
      KeepsMemoryBut [] s s.pull.2)

/-- WriteP(v) leaves v with the Unused bit forced to 1 in P; writing one flag leaves that flag at the value (Unused apart, which is forced to 1) and every other flag but Unused as it was; SetZN(v) sets Z to (v = 0) and N to bit 7 of v and no other flag but Unused; none of them touches anything else. -/
def Obligations.FlagWrites : Prop :=
  ∀ (s : State) (v : Byte) (g : Flag) (e : Bool),
    s.writeP v = { s with p := v ||| 0x20#8 } ∧
    s.setFlag g e = { s with p := (s.setFlag g e).p } ∧
    WritesOnlyFlags [g] s (s.setFlag g e) ∧ (g ≠ .unused → (s.setFlag g e).flag g = e) ∧
    s.setZN v = { s with p := (s.setZN v).p } ∧
    ZeroNegativeOf v (s.setZN v) ∧ WritesOnlyFlags [.zero, .negative] s (s.setZN v)

/-! Loads, stores, transfers. -/

/-- Each form of LDA, with its opcode, completes in every state: A is the operand byte, Z and N are its, no other register, flag or byte of memory changes, and the bus has made exactly the mode's accesses. -/
def Obligations.LoadAccumulator : Prop :=
  let effect := fun (m : Byte) (s t : State) =>
    t.a = m ∧ ZeroNegativeOf m t ∧ KeepsRegisters [.a] s t ∧
      WritesOnlyFlags [.zero, .negative] s t
  (∀ b : Byte, Reads 0xA9#8 (.ldaImmediate b) (.immediate b) effect) ∧
  (∀ b : Byte, Reads 0xA5#8 (.ldaZeroPage b) (.memory (.zeroPage b)) effect) ∧
  (∀ b : Byte, Reads 0xB5#8 (.ldaZeroPageX b) (.memory (.zeroPageX b)) effect) ∧
  (∀ w : Addr, Reads 0xAD#8 (.ldaAbsolute w) (.memory (.absolute w)) effect) ∧
  (∀ w : Addr, Reads 0xBD#8 (.ldaAbsoluteX w) (.memory (.absoluteX w)) effect) ∧
  (∀ w : Addr, Reads 0xB9#8 (.ldaAbsoluteY w) (.memory (.absoluteY w)) effect) ∧
  (∀ b : Byte, Reads 0xA1#8 (.ldaIndexedIndirect b) (.memory (.indexedIndirect b)) effect) ∧
  (∀ b : Byte, Reads 0xB1#8 (.ldaIndirectIndexed b) (.memory (.indirectIndexed b)) effect)

/-- Each form of LDX, with its opcode, completes in every state: X is the operand byte, Z and N are its, no other register, flag or byte of memory changes, and the bus has made exactly the mode's accesses. -/
def Obligations.LoadX : Prop :=
  let effect := fun (m : Byte) (s t : State) =>
    t.x = m ∧ ZeroNegativeOf m t ∧ KeepsRegisters [.x] s t ∧
      WritesOnlyFlags [.zero, .negative] s t
  (∀ b : Byte, Reads 0xA2#8 (.ldxImmediate b) (.immediate b) effect) ∧
  (∀ b : Byte, Reads 0xA6#8 (.ldxZeroPage b) (.memory (.zeroPage b)) effect) ∧
  (∀ b : Byte, Reads 0xB6#8 (.ldxZeroPageY b) (.memory (.zeroPageY b)) effect) ∧
  (∀ w : Addr, Reads 0xAE#8 (.ldxAbsolute w) (.memory (.absolute w)) effect) ∧
  (∀ w : Addr, Reads 0xBE#8 (.ldxAbsoluteY w) (.memory (.absoluteY w)) effect)

/-- Each form of LDY, with its opcode, completes in every state: Y is the operand byte, Z and N are its, no other register, flag or byte of memory changes, and the bus has made exactly the mode's accesses. -/
def Obligations.LoadY : Prop :=
  let effect := fun (m : Byte) (s t : State) =>
    t.y = m ∧ ZeroNegativeOf m t ∧ KeepsRegisters [.y] s t ∧
      WritesOnlyFlags [.zero, .negative] s t
  (∀ b : Byte, Reads 0xA0#8 (.ldyImmediate b) (.immediate b) effect) ∧
  (∀ b : Byte, Reads 0xA4#8 (.ldyZeroPage b) (.memory (.zeroPage b)) effect) ∧
  (∀ b : Byte, Reads 0xB4#8 (.ldyZeroPageX b) (.memory (.zeroPageX b)) effect) ∧
  (∀ w : Addr, Reads 0xAC#8 (.ldyAbsolute w) (.memory (.absolute w)) effect) ∧
  (∀ w : Addr, Reads 0xBC#8 (.ldyAbsoluteX w) (.memory (.absoluteX w)) effect)

/-- Each form of STA, STX and STY, with its opcode, completes in every state: one bus write of A, X or Y at the effective address the mode computes, with no read of it, no register or flag changed, and every other byte of memory as before. -/
def Obligations.StoresWriteOneByte : Prop :=
  (∀ b : Byte, Stores 0x85#8 (.staZeroPage b) (.zeroPage b) (fun s => s.a)) ∧
  (∀ b : Byte, Stores 0x95#8 (.staZeroPageX b) (.zeroPageX b) (fun s => s.a)) ∧
  (∀ w : Addr, Stores 0x8D#8 (.staAbsolute w) (.absolute w) (fun s => s.a)) ∧
  (∀ w : Addr, Stores 0x9D#8 (.staAbsoluteX w) (.absoluteX w) (fun s => s.a)) ∧
  (∀ w : Addr, Stores 0x99#8 (.staAbsoluteY w) (.absoluteY w) (fun s => s.a)) ∧
  (∀ b : Byte, Stores 0x81#8 (.staIndexedIndirect b) (.indexedIndirect b) (fun s => s.a)) ∧
  (∀ b : Byte, Stores 0x91#8 (.staIndirectIndexed b) (.indirectIndexed b) (fun s => s.a)) ∧
  (∀ b : Byte, Stores 0x86#8 (.stxZeroPage b) (.zeroPage b) (fun s => s.x)) ∧
  (∀ b : Byte, Stores 0x96#8 (.stxZeroPageY b) (.zeroPageY b) (fun s => s.x)) ∧
  (∀ w : Addr, Stores 0x8E#8 (.stxAbsolute w) (.absolute w) (fun s => s.x)) ∧
  (∀ b : Byte, Stores 0x84#8 (.styZeroPage b) (.zeroPage b) (fun s => s.y)) ∧
  (∀ b : Byte, Stores 0x94#8 (.styZeroPageX b) (.zeroPageX b) (fun s => s.y)) ∧
  (∀ w : Addr, Stores 0x8C#8 (.styAbsolute w) (.absolute w) (fun s => s.y))

/-- Each transfer completes in every state with no bus access: the destination receives the source, Z and N are those of the value (of TXS: P is unchanged), and nothing else changes. -/
def Obligations.TransfersCopyRegisters : Prop :=
  RegisterOnly 0xAA#8 .tax (fun s t => t.x = s.a ∧ ZeroNegativeOf s.a t ∧
    KeepsRegisters [.x] s t ∧ WritesOnlyFlags [.zero, .negative] s t) ∧
  RegisterOnly 0xA8#8 .tay (fun s t => t.y = s.a ∧ ZeroNegativeOf s.a t ∧
    KeepsRegisters [.y] s t ∧ WritesOnlyFlags [.zero, .negative] s t) ∧
  RegisterOnly 0xBA#8 .tsx (fun s t => t.x = s.sp ∧ ZeroNegativeOf s.sp t ∧
    KeepsRegisters [.x] s t ∧ WritesOnlyFlags [.zero, .negative] s t) ∧
  RegisterOnly 0x8A#8 .txa (fun s t => t.a = s.x ∧ ZeroNegativeOf s.x t ∧
    KeepsRegisters [.a] s t ∧ WritesOnlyFlags [.zero, .negative] s t) ∧
  RegisterOnly 0x98#8 .tya (fun s t => t.a = s.y ∧ ZeroNegativeOf s.y t ∧
    KeepsRegisters [.a] s t ∧ WritesOnlyFlags [.zero, .negative] s t) ∧
  RegisterOnly 0x9A#8 .txs (fun s t => t.sp = s.x ∧ KeepsRegisters [.sp] s t ∧ t.p = s.p)

/-! Arithmetic and logic. -/

/-- Each form of ADC completes in every state. Binary: A is (A + M + C) mod 256 and C is set iff the sum exceeds 255. Decimal: A is the BCD encoding of the decimal sum mod 100 and C is set iff that sum exceeds 99. V in both modes is bit 7 of (A xor r) and (M xor r) for the 8-bit binary sum r; Z and N are those of the final A. Nothing else changes. -/
def Obligations.AddWithCarry : Prop :=
  let effect := fun (m : Byte) (s t : State) =>
    (s.flag .decimal = false →
      t.a.toNat = (s.a.toNat + m.toNat + num (s.flag .carry)) % 256 ∧
      t.flag .carry = decide (255 < s.a.toNat + m.toNat + num (s.flag .carry))) ∧
    (s.flag .decimal = true → ∀ dsum, dsum = bcd s.a + bcd m + num (s.flag .carry) →
      t.a.toNat = dsum % 100 / 10 * 16 + dsum % 100 % 10 ∧
      t.flag .carry = decide (99 < dsum)) ∧
    (∀ r : Byte, r = s.a + m + BitVec.ofNat 8 (num (s.flag .carry)) →
      t.flag .overflow = ((s.a ^^^ r) &&& (m ^^^ r) &&& 0x80#8 != 0x00#8)) ∧
    ZeroNegativeOf t.a t ∧ KeepsRegisters [.a] s t ∧
    WritesOnlyFlags [.carry, .overflow, .zero, .negative] s t
  (∀ b : Byte, Reads 0x69#8 (.adcImmediate b) (.immediate b) effect) ∧
  (∀ b : Byte, Reads 0x65#8 (.adcZeroPage b) (.memory (.zeroPage b)) effect) ∧
  (∀ b : Byte, Reads 0x75#8 (.adcZeroPageX b) (.memory (.zeroPageX b)) effect) ∧
  (∀ w : Addr, Reads 0x6D#8 (.adcAbsolute w) (.memory (.absolute w)) effect) ∧
  (∀ w : Addr, Reads 0x7D#8 (.adcAbsoluteX w) (.memory (.absoluteX w)) effect) ∧
  (∀ w : Addr, Reads 0x79#8 (.adcAbsoluteY w) (.memory (.absoluteY w)) effect) ∧
  (∀ b : Byte, Reads 0x61#8 (.adcIndexedIndirect b) (.memory (.indexedIndirect b)) effect) ∧
  (∀ b : Byte, Reads 0x71#8 (.adcIndirectIndexed b) (.memory (.indirectIndexed b)) effect)

/-- Each form of SBC completes in every state. Binary: A is (A - M - (1 - C)) mod 256 and C is set iff the unbounded difference is not negative. Decimal: with d the difference of the BCD values less the borrow, C is set iff d is not negative, 100 is added when it is, and A is the BCD encoding if that lies in 0..99, else the free value DEC_SBC_INVALID(A, M, C). V in both modes is bit 7 of (A xor M) and (A xor r) for the 8-bit binary difference r; Z and N are those of the final A. Nothing else changes. -/
def Obligations.SubtractWithBorrow : Prop :=
  let effect := fun (m : Byte) (s t : State) =>
    (s.flag .decimal = false → ∀ bdiff : Int,
      bdiff = (s.a.toNat : Int) - m.toNat - (1 - (num (s.flag .carry) : Int)) →
      (t.a.toNat : Int) = bdiff % 256 ∧ t.flag .carry = decide (0 ≤ bdiff)) ∧
    (s.flag .decimal = true → ∀ d r : Int,
      d = (bcd s.a : Int) - bcd m - (1 - (num (s.flag .carry) : Int)) →
      r = (if d < 0 then d + 100 else d) →
      t.flag .carry = decide (0 ≤ d) ∧
      (0 ≤ r ∧ r ≤ 99 → (t.a.toNat : Int) = r / 10 * 16 + r % 10) ∧
      (¬ (0 ≤ r ∧ r ≤ 99) → t.a = Config.decSbcInvalid s.a m (s.flag .carry))) ∧
    (∀ r : Byte, r = s.a - m - BitVec.ofNat 8 (1 - num (s.flag .carry)) →
      t.flag .overflow = ((s.a ^^^ m) &&& (s.a ^^^ r) &&& 0x80#8 != 0x00#8)) ∧
    ZeroNegativeOf t.a t ∧ KeepsRegisters [.a] s t ∧
    WritesOnlyFlags [.carry, .overflow, .zero, .negative] s t
  (∀ b : Byte, Reads 0xE9#8 (.sbcImmediate b) (.immediate b) effect) ∧
  (∀ b : Byte, Reads 0xE5#8 (.sbcZeroPage b) (.memory (.zeroPage b)) effect) ∧
  (∀ b : Byte, Reads 0xF5#8 (.sbcZeroPageX b) (.memory (.zeroPageX b)) effect) ∧
  (∀ w : Addr, Reads 0xED#8 (.sbcAbsolute w) (.memory (.absolute w)) effect) ∧
  (∀ w : Addr, Reads 0xFD#8 (.sbcAbsoluteX w) (.memory (.absoluteX w)) effect) ∧
  (∀ w : Addr, Reads 0xF9#8 (.sbcAbsoluteY w) (.memory (.absoluteY w)) effect) ∧
  (∀ b : Byte, Reads 0xE1#8 (.sbcIndexedIndirect b) (.memory (.indexedIndirect b)) effect) ∧
  (∀ b : Byte, Reads 0xF1#8 (.sbcIndirectIndexed b) (.memory (.indirectIndexed b)) effect)

/-- In every state with D = 0: after ADC #M, then SEC if the carry-in was 0 or CLC if it was 1, SBC #M gives back the original A and leaves C as the negation of the ADC's carry-out. -/
def Obligations.BinaryAddThenSubtractRoundTrips : Prop :=
  ∀ (s : State) (m : Byte), s.flag .decimal = false →
    ∃ t u v, exec (.adcImmediate m) s = .next t ∧
      exec (if s.flag .carry then .clc else .sec) t = .next u ∧
      exec (.sbcImmediate m) u = .next v ∧ v.a = s.a ∧ v.flag .carry = !t.flag .carry

/-- Each form of AND, ORA and EOR completes in every state: A is the bitwise and, inclusive or, exclusive or of A and the operand, Z and N are those of the result, nothing else changes. -/
def Obligations.LogicCombinesWithAccumulator : Prop :=
  let effect := fun (f : Byte → Byte → Byte) (m : Byte) (s t : State) =>
    t.a = f s.a m ∧ ZeroNegativeOf (f s.a m) t ∧ KeepsRegisters [.a] s t ∧
      WritesOnlyFlags [.zero, .negative] s t
  (∀ b : Byte, Reads 0x29#8 (.andImmediate b) (.immediate b) (effect (· &&& ·))) ∧
  (∀ b : Byte, Reads 0x25#8 (.andZeroPage b) (.memory (.zeroPage b)) (effect (· &&& ·))) ∧
  (∀ b : Byte, Reads 0x35#8 (.andZeroPageX b) (.memory (.zeroPageX b)) (effect (· &&& ·))) ∧
  (∀ w : Addr, Reads 0x2D#8 (.andAbsolute w) (.memory (.absolute w)) (effect (· &&& ·))) ∧
  (∀ w : Addr, Reads 0x3D#8 (.andAbsoluteX w) (.memory (.absoluteX w)) (effect (· &&& ·))) ∧
  (∀ w : Addr, Reads 0x39#8 (.andAbsoluteY w) (.memory (.absoluteY w)) (effect (· &&& ·))) ∧
  (∀ b : Byte, Reads 0x21#8 (.andIndexedIndirect b) (.memory (.indexedIndirect b)) (effect (· &&& ·))) ∧
  (∀ b : Byte, Reads 0x31#8 (.andIndirectIndexed b) (.memory (.indirectIndexed b)) (effect (· &&& ·))) ∧
  (∀ b : Byte, Reads 0x09#8 (.oraImmediate b) (.immediate b) (effect (· ||| ·))) ∧
  (∀ b : Byte, Reads 0x05#8 (.oraZeroPage b) (.memory (.zeroPage b)) (effect (· ||| ·))) ∧
  (∀ b : Byte, Reads 0x15#8 (.oraZeroPageX b) (.memory (.zeroPageX b)) (effect (· ||| ·))) ∧
  (∀ w : Addr, Reads 0x0D#8 (.oraAbsolute w) (.memory (.absolute w)) (effect (· ||| ·))) ∧
  (∀ w : Addr, Reads 0x1D#8 (.oraAbsoluteX w) (.memory (.absoluteX w)) (effect (· ||| ·))) ∧
  (∀ w : Addr, Reads 0x19#8 (.oraAbsoluteY w) (.memory (.absoluteY w)) (effect (· ||| ·))) ∧
  (∀ b : Byte, Reads 0x01#8 (.oraIndexedIndirect b) (.memory (.indexedIndirect b)) (effect (· ||| ·))) ∧
  (∀ b : Byte, Reads 0x11#8 (.oraIndirectIndexed b) (.memory (.indirectIndexed b)) (effect (· ||| ·))) ∧
  (∀ b : Byte, Reads 0x49#8 (.eorImmediate b) (.immediate b) (effect (· ^^^ ·))) ∧
  (∀ b : Byte, Reads 0x45#8 (.eorZeroPage b) (.memory (.zeroPage b)) (effect (· ^^^ ·))) ∧
  (∀ b : Byte, Reads 0x55#8 (.eorZeroPageX b) (.memory (.zeroPageX b)) (effect (· ^^^ ·))) ∧
  (∀ w : Addr, Reads 0x4D#8 (.eorAbsolute w) (.memory (.absolute w)) (effect (· ^^^ ·))) ∧
  (∀ w : Addr, Reads 0x5D#8 (.eorAbsoluteX w) (.memory (.absoluteX w)) (effect (· ^^^ ·))) ∧
  (∀ w : Addr, Reads 0x59#8 (.eorAbsoluteY w) (.memory (.absoluteY w)) (effect (· ^^^ ·))) ∧
  (∀ b : Byte, Reads 0x41#8 (.eorIndexedIndirect b) (.memory (.indexedIndirect b)) (effect (· ^^^ ·))) ∧
  (∀ b : Byte, Reads 0x51#8 (.eorIndirectIndexed b) (.memory (.indirectIndexed b)) (effect (· ^^^ ·)))

/-- Both forms of BIT complete in every state: Z is set iff A and M share no bit, N is bit 7 and V bit 6 of M, no register and no other flag changes. -/
def Obligations.BitTestsMemory : Prop :=
  let effect := fun (m : Byte) (s t : State) =>
    t.flag .zero = decide (s.a &&& m = 0x00#8) ∧ t.flag .negative = m.getLsbD 7 ∧
      t.flag .overflow = m.getLsbD 6 ∧ KeepsRegisters [] s t ∧
      WritesOnlyFlags [.zero, .negative, .overflow] s t
  (∀ b : Byte, Reads 0x24#8 (.bitZeroPage b) (.memory (.zeroPage b)) effect) ∧
  (∀ w : Addr, Reads 0x2C#8 (.bitAbsolute w) (.memory (.absolute w)) effect)

/-! Shifts, rotates, increments, decrements, compares. -/

/-- Each form of each shift, with its opcode, completes in every state. With v the byte of A or of the effective address and C the old carry, the result is 2v mod 256, v div 2, (2v + C) mod 256, v div 2 + 128C; C becomes old bit 7 (left) or old bit 0 (right); Z and N are the result's; V, I, D are unchanged. The Accumulator form writes A and makes no bus access; a memory form reads the effective address once and then writes the result there once, changes no register, and leaves every other byte of memory. -/
def Obligations.ShiftsAndRotates : Prop :=
  let effect := fun (result : Bool → Nat → Nat) (newCarry : Nat → Bool) (s t : State) =>
    t.a.toNat = result (s.flag .carry) s.a.toNat ∧ t.flag .carry = newCarry s.a.toNat ∧
      ZeroNegativeOf t.a t ∧ KeepsRegisters [.a] s t ∧
      WritesOnlyFlags [.carry, .zero, .negative] s t
  RegisterOnly 0x0A#8 .aslAccumulator (effect (fun _ v => 2 * v % 256) (fun v => decide (128 ≤ v))) ∧
  RegisterOnly 0x4A#8 .lsrAccumulator (effect (fun _ v => v / 2) (fun v => decide (v % 2 = 1))) ∧
  RegisterOnly 0x2A#8 .rolAccumulator (effect (fun c v => (2 * v + num c) % 256) (fun v => decide (128 ≤ v))) ∧
  RegisterOnly 0x6A#8 .rorAccumulator (effect (fun c v => v / 2 + 128 * num c) (fun v => decide (v % 2 = 1))) ∧
  (∀ b : Byte, Modifies 0x06#8 (.aslZeroPage b) (.zeroPage b) (fun _ v => 2 * v % 256) [.carry]
    (fun v => decide (128 ≤ v))) ∧
  (∀ b : Byte, Modifies 0x16#8 (.aslZeroPageX b) (.zeroPageX b) (fun _ v => 2 * v % 256) [.carry]
    (fun v => decide (128 ≤ v))) ∧
  (∀ w : Addr, Modifies 0x0E#8 (.aslAbsolute w) (.absolute w) (fun _ v => 2 * v % 256) [.carry]
    (fun v => decide (128 ≤ v))) ∧
  (∀ w : Addr, Modifies 0x1E#8 (.aslAbsoluteX w) (.absoluteX w) (fun _ v => 2 * v % 256) [.carry]
    (fun v => decide (128 ≤ v))) ∧
  (∀ b : Byte, Modifies 0x46#8 (.lsrZeroPage b) (.zeroPage b) (fun _ v => v / 2) [.carry]
    (fun v => decide (v % 2 = 1))) ∧
  (∀ b : Byte, Modifies 0x56#8 (.lsrZeroPageX b) (.zeroPageX b) (fun _ v => v / 2) [.carry]
    (fun v => decide (v % 2 = 1))) ∧
  (∀ w : Addr, Modifies 0x4E#8 (.lsrAbsolute w) (.absolute w) (fun _ v => v / 2) [.carry]
    (fun v => decide (v % 2 = 1))) ∧
  (∀ w : Addr, Modifies 0x5E#8 (.lsrAbsoluteX w) (.absoluteX w) (fun _ v => v / 2) [.carry]
    (fun v => decide (v % 2 = 1))) ∧
  (∀ b : Byte, Modifies 0x26#8 (.rolZeroPage b) (.zeroPage b) (fun c v => (2 * v + num c) % 256) [.carry]
    (fun v => decide (128 ≤ v))) ∧
  (∀ b : Byte, Modifies 0x36#8 (.rolZeroPageX b) (.zeroPageX b) (fun c v => (2 * v + num c) % 256) [.carry]
    (fun v => decide (128 ≤ v))) ∧
  (∀ w : Addr, Modifies 0x2E#8 (.rolAbsolute w) (.absolute w) (fun c v => (2 * v + num c) % 256) [.carry]
    (fun v => decide (128 ≤ v))) ∧
  (∀ w : Addr, Modifies 0x3E#8 (.rolAbsoluteX w) (.absoluteX w) (fun c v => (2 * v + num c) % 256) [.carry]
    (fun v => decide (128 ≤ v))) ∧
  (∀ b : Byte, Modifies 0x66#8 (.rorZeroPage b) (.zeroPage b) (fun c v => v / 2 + 128 * num c) [.carry]
    (fun v => decide (v % 2 = 1))) ∧
  (∀ b : Byte, Modifies 0x76#8 (.rorZeroPageX b) (.zeroPageX b) (fun c v => v / 2 + 128 * num c) [.carry]
    (fun v => decide (v % 2 = 1))) ∧
  (∀ w : Addr, Modifies 0x6E#8 (.rorAbsolute w) (.absolute w) (fun c v => v / 2 + 128 * num c) [.carry]
    (fun v => decide (v % 2 = 1))) ∧
  (∀ w : Addr, Modifies 0x7E#8 (.rorAbsoluteX w) (.absoluteX w) (fun c v => v / 2 + 128 * num c) [.carry]
    (fun v => decide (v % 2 = 1)))

/-- Each form of INC and DEC completes in every state: it reads the effective address once and writes the byte plus or minus one modulo 256 there once; Z and N are the result's; no register and no other flag changes and every other byte of memory reads as before. -/
def Obligations.MemoryIncrementDecrement : Prop :=
  (∀ b : Byte, Modifies 0xE6#8 (.incZeroPage b) (.zeroPage b) (fun _ v => (v + 1) % 256) []
    (fun _ => false)) ∧
  (∀ b : Byte, Modifies 0xF6#8 (.incZeroPageX b) (.zeroPageX b) (fun _ v => (v + 1) % 256) []
    (fun _ => false)) ∧
  (∀ w : Addr, Modifies 0xEE#8 (.incAbsolute w) (.absolute w) (fun _ v => (v + 1) % 256) []
    (fun _ => false)) ∧
  (∀ w : Addr, Modifies 0xFE#8 (.incAbsoluteX w) (.absoluteX w) (fun _ v => (v + 1) % 256) []
    (fun _ => false)) ∧
  (∀ b : Byte, Modifies 0xC6#8 (.decZeroPage b) (.zeroPage b) (fun _ v => (v + 255) % 256) []
    (fun _ => false)) ∧
  (∀ b : Byte, Modifies 0xD6#8 (.decZeroPageX b) (.zeroPageX b) (fun _ v => (v + 255) % 256) []
    (fun _ => false)) ∧
  (∀ w : Addr, Modifies 0xCE#8 (.decAbsolute w) (.absolute w) (fun _ v => (v + 255) % 256) []
    (fun _ => false)) ∧
  (∀ w : Addr, Modifies 0xDE#8 (.decAbsoluteX w) (.absoluteX w) (fun _ v => (v + 255) % 256) []
    (fun _ => false))

/-- Each completes in every state with no bus access: the register is one more or one less modulo 256, Z and N are its, nothing else changes. -/
def Obligations.RegisterIncrementDecrement : Prop :=
  RegisterOnly 0xE8#8 .inx (fun s t => t.x.toNat = (s.x.toNat + 1) % 256 ∧
    ZeroNegativeOf t.x t ∧ KeepsRegisters [.x] s t ∧ WritesOnlyFlags [.zero, .negative] s t) ∧
  RegisterOnly 0xC8#8 .iny (fun s t => t.y.toNat = (s.y.toNat + 1) % 256 ∧
    ZeroNegativeOf t.y t ∧ KeepsRegisters [.y] s t ∧ WritesOnlyFlags [.zero, .negative] s t) ∧
  RegisterOnly 0xCA#8 .dex (fun s t => t.x.toNat = (s.x.toNat + 255) % 256 ∧
    ZeroNegativeOf t.x t ∧ KeepsRegisters [.x] s t ∧ WritesOnlyFlags [.zero, .negative] s t) ∧
  RegisterOnly 0x88#8 .dey (fun s t => t.y.toNat = (s.y.toNat + 255) % 256 ∧
    ZeroNegativeOf t.y t ∧ KeepsRegisters [.y] s t ∧ WritesOnlyFlags [.zero, .negative] s t)

/-- Each form completes in every state: C is set iff the register is at least M unsigned, Z iff they are equal, N is bit 7 of the difference modulo 256; no register and no other flag changes. -/
def Obligations.ComparesSetFlagsOnly : Prop :=
  let effect := fun (register : State → Byte) (m : Byte) (s t : State) =>
    t.flag .carry = decide (m.toNat ≤ (register s).toNat) ∧
      t.flag .zero = decide (register s = m) ∧
      t.flag .negative = decide (128 ≤ ((register s).toNat + 256 - m.toNat) % 256) ∧
      KeepsRegisters [] s t ∧ WritesOnlyFlags [.carry, .zero, .negative] s t
  (∀ b : Byte, Reads 0xC9#8 (.cmpImmediate b) (.immediate b) (effect (fun s => s.a))) ∧
  (∀ b : Byte, Reads 0xC5#8 (.cmpZeroPage b) (.memory (.zeroPage b)) (effect (fun s => s.a))) ∧
  (∀ b : Byte, Reads 0xD5#8 (.cmpZeroPageX b) (.memory (.zeroPageX b)) (effect (fun s => s.a))) ∧
  (∀ w : Addr, Reads 0xCD#8 (.cmpAbsolute w) (.memory (.absolute w)) (effect (fun s => s.a))) ∧
  (∀ w : Addr, Reads 0xDD#8 (.cmpAbsoluteX w) (.memory (.absoluteX w)) (effect (fun s => s.a))) ∧
  (∀ w : Addr, Reads 0xD9#8 (.cmpAbsoluteY w) (.memory (.absoluteY w)) (effect (fun s => s.a))) ∧
  (∀ b : Byte, Reads 0xC1#8 (.cmpIndexedIndirect b) (.memory (.indexedIndirect b)) (effect (fun s => s.a))) ∧
  (∀ b : Byte, Reads 0xD1#8 (.cmpIndirectIndexed b) (.memory (.indirectIndexed b)) (effect (fun s => s.a))) ∧
  (∀ b : Byte, Reads 0xE0#8 (.cpxImmediate b) (.immediate b) (effect (fun s => s.x))) ∧
  (∀ b : Byte, Reads 0xE4#8 (.cpxZeroPage b) (.memory (.zeroPage b)) (effect (fun s => s.x))) ∧
  (∀ w : Addr, Reads 0xEC#8 (.cpxAbsolute w) (.memory (.absolute w)) (effect (fun s => s.x))) ∧
  (∀ b : Byte, Reads 0xC0#8 (.cpyImmediate b) (.immediate b) (effect (fun s => s.y))) ∧
  (∀ b : Byte, Reads 0xC4#8 (.cpyZeroPage b) (.memory (.zeroPage b)) (effect (fun s => s.y))) ∧
  (∀ w : Addr, Reads 0xCC#8 (.cpyAbsolute w) (.memory (.absolute w)) (effect (fun s => s.y)))

/-! Control flow. -/

/-- Each branch, with its opcode and its condition, completes in every state: not taken it changes nothing; taken, PC is PC plus the signed displacement modulo 65536, branch_taken is set, page_crossed is set exactly when the high bytes of the new and old PC differ, and nothing else changes. -/
def Obligations.BranchesTakenAndNotTaken : Prop :=
  (∀ b : Byte, Branches 0x10#8 (.bpl b) b (fun s => !s.flag .negative)) ∧
  (∀ b : Byte, Branches 0x30#8 (.bmi b) b (fun s => s.flag .negative)) ∧
  (∀ b : Byte, Branches 0x50#8 (.bvc b) b (fun s => !s.flag .overflow)) ∧
  (∀ b : Byte, Branches 0x70#8 (.bvs b) b (fun s => s.flag .overflow)) ∧
  (∀ b : Byte, Branches 0x90#8 (.bcc b) b (fun s => !s.flag .carry)) ∧
  (∀ b : Byte, Branches 0xB0#8 (.bcs b) b (fun s => s.flag .carry)) ∧
  (∀ b : Byte, Branches 0xD0#8 (.bne b) b (fun s => !s.flag .zero)) ∧
  (∀ b : Byte, Branches 0xF0#8 (.beq b) b (fun s => s.flag .zero))

/-- JMP Absolute sets PC to its word with no bus access; JMP Indirect sets PC to ReadWordBug of its word, with that read's two bus accesses; no flag, no other register, no byte of memory changes. -/
def Obligations.JumpsSetPc : Prop :=
  (∀ w : Addr, RegisterOnly 0x4C#8 (.jmpAbsolute w)
    (fun s t => t.pc = w ∧ KeepsRegisters [.pc] s t ∧ t.p = s.p)) ∧
  (∀ w : Addr, (Instr.jmpIndirect w).opcode = 0x6C#8 ∧ ∀ s : State, ∃ t,
    exec (.jmpIndirect w) s = .next t ∧ t.pc = (s.readWordBug w).1 ∧
    t.bus = (s.readWordBug w).2.bus ∧ KeepsRegisters [.pc] s t ∧ t.p = s.p ∧
    KeepsTransients s t ∧ KeepsMemoryBut [] s t)

/-- In every state, with high and low the stack addresses 256 + SP and 256 + (SP + 255) mod 256, JSR writes the high byte of PC - 1 at the first and then the low byte at the second, SP is two lower modulo 256, PC is the target; no flag, no other register, no other byte of memory changes. (PC is the address of the following instruction when the action begins.) -/
def Obligations.CallPushesReturnAddressMinusOne : Prop :=
  ∀ w : Addr, (Instr.jsr w).opcode = 0x20#8 ∧ ∀ (s : State) (high low ra : Addr),
    high.toNat = 256 + s.sp.toNat → low.toNat = 256 + (s.sp.toNat + 255) % 256 →
    ra.toNat = (s.pc.toNat + 65535) % 65536 → ∃ t, exec (.jsr w) s = .next t ∧
      t.bus = (s.bus.write high (BitVec.ofNat 8 (ra.toNat / 256))).write low
        (BitVec.ofNat 8 ra.toNat) ∧
      t.sp.toNat = (s.sp.toNat + 254) % 256 ∧ t.pc = w ∧ t.p = s.p ∧
      KeepsRegisters [.pc, .sp] s t ∧ KeepsTransients s t ∧ KeepsMemoryBut [high, low] s t

/-- In every state, with low and high the stack addresses 256 + (SP + 1) mod 256 and 256 + (SP + 2) mod 256, RTS reads low then high, PC is the little-endian word plus one modulo 65536, SP is two higher modulo 256; no flag, no other register, no byte of memory changes. -/
def Obligations.ReturnPullsWordPlusOne : Prop :=
  Instr.rts.opcode = 0x60#8 ∧ ∀ (s : State) (low high : Addr),
    low.toNat = 256 + (s.sp.toNat + 1) % 256 → high.toNat = 256 + (s.sp.toNat + 2) % 256 →
    ∃ t, exec .rts s = .next t ∧
      t.pc.toNat = ((s.bus.read low).1.toNat +
        256 * ((s.bus.read low).2.read high).1.toNat + 1) % 65536 ∧
      t.bus = ((s.bus.read low).2.read high).2 ∧ t.sp.toNat = (s.sp.toNat + 2) % 256 ∧
      t.p = s.p ∧ KeepsRegisters [.pc, .sp] s t ∧ KeepsTransients s t ∧
      KeepsMemoryBut [] s t

/-- In every state with RAM in canonical form whose two stack bytes are plain RAM, running JSR and then RTS ends with PC at the instruction after the JSR, SP as before, and P and the other registers as before. -/
def Obligations.CallThenReturnRoundTrips : Prop :=
  ∀ (s : State) (w high low : Addr), s.bus.mem.wf = true →
    high.toNat = 256 + s.sp.toNat → low.toNat = 256 + (s.sp.toNat + 255) % 256 →
    s.bus.isRam high = true → s.bus.isRam low = true →
    ∃ t u, exec (.jsr w) s = .next t ∧ exec .rts t = .next u ∧ u.pc = s.pc ∧ u.sp = s.sp ∧
      u.p = s.p ∧ KeepsRegisters [] s u

/-! Stack, status, BRK, RTI, NOP. -/

/-- In every state, with a the stack address 256 + SP: PHA writes A there, PHP writes P with bit 4 set there, once; SP is one lower modulo 256; P, the other registers and every other byte of memory are unchanged. -/
def Obligations.PushesStoreOneByte : Prop :=
  let pushes := fun (op : Byte) (i : Instr) (v : State → Byte) =>
    i.opcode = op ∧ ∀ (s : State) (a : Addr), a.toNat = 256 + s.sp.toNat →
      ∃ t, exec i s = .next t ∧ t.bus = s.bus.write a (v s) ∧
        t.sp.toNat = (s.sp.toNat + 255) % 256 ∧ t.p = s.p ∧ KeepsRegisters [.sp] s t ∧
        KeepsTransients s t ∧ KeepsMemoryBut [a] s t
  pushes 0x48#8 .pha (fun s => s.a) ∧ pushes 0x08#8 .php (fun s => s.p ||| 0x10#8)

/-- In every state, with a the stack address 256 + (SP + 1) mod 256, both read it once and leave SP there: PLA sets A to the byte and Z and N to its; PLP sets P to the byte with bit 5 forced to 1 and bit 4 to 0. Nothing else changes. -/
def Obligations.PullsReadOneByte : Prop :=
  let pulls := fun (op : Byte) (i : Instr) (effect : Byte → State → State → Prop) =>
    i.opcode = op ∧ ∀ (s : State) (a : Addr), a.toNat = 256 + (s.sp.toNat + 1) % 256 →
      ∃ t, exec i s = .next t ∧ effect (s.bus.read a).1 s t ∧ t.bus = (s.bus.read a).2 ∧
        t.sp.toNat = (s.sp.toNat + 1) % 256 ∧ KeepsTransients s t ∧ KeepsMemoryBut [] s t
  pulls 0x68#8 .pla (fun v s t => t.a = v ∧ ZeroNegativeOf v t ∧ KeepsRegisters [.a, .sp] s t ∧
    WritesOnlyFlags [.zero, .negative] s t) ∧
  pulls 0x28#8 .plp (fun v s t => t.p = (v &&& 0xEF#8) ||| 0x20#8 ∧ KeepsRegisters [.sp] s t)

/-- Each completes in every state with no bus access: the named flag has the named value, every other flag but Unused (which is 1) and every register is unchanged. -/
def Obligations.FlagInstructionsWriteOneFlag : Prop :=
  let effect := fun (f : Flag) (e : Bool) (s t : State) =>
    t.flag f = e ∧ WritesOnlyFlags [f] s t ∧ KeepsRegisters [] s t
  RegisterOnly 0x18#8 .clc (effect .carry false) ∧
  RegisterOnly 0x38#8 .sec (effect .carry true) ∧
  RegisterOnly 0x58#8 .cli (effect .interruptDisable false) ∧
  RegisterOnly 0x78#8 .sei (effect .interruptDisable true) ∧
  RegisterOnly 0xD8#8 .cld (effect .decimal false) ∧
  RegisterOnly 0xF8#8 .sed (effect .decimal true) ∧
  RegisterOnly 0xB8#8 .clv (effect .overflow false)

/-- In every state (PC one past the opcode), with a1, a2, a3 the stack addresses at SP, SP - 1, SP - 2 (mod 256) in page 1 and ret the PC plus one modulo 65536: BRK writes the high byte of ret at a1, its low byte at a2 and P with bit 4 set at a3, in that order, then reads 0xFFFE and 0xFFFF; PC is that little-endian word, SP three lower modulo 256, I is 1 and every other flag but Unused unchanged; no other register and no other byte of memory changes. -/
def Obligations.BreakTakesTheTrap : Prop :=
  Instr.brk.opcode = 0x00#8 ∧ ∀ (s : State) (a1 a2 a3 ret : Addr),
    a1.toNat = 256 + s.sp.toNat → a2.toNat = 256 + (s.sp.toNat + 255) % 256 →
    a3.toNat = 256 + (s.sp.toNat + 254) % 256 → ret.toNat = (s.pc.toNat + 1) % 65536 →
    ∃ t b, exec .brk s = .next t ∧
      b = ((s.bus.write a1 (BitVec.ofNat 8 (ret.toNat / 256))).write a2
        (BitVec.ofNat 8 ret.toNat)).write a3 (s.p ||| 0x10#8) ∧
      t.bus = ((b.read 0xFFFE#16).2.read 0xFFFF#16).2 ∧
      t.pc.toNat = (b.read 0xFFFE#16).1.toNat +
        256 * ((b.read 0xFFFE#16).2.read 0xFFFF#16).1.toNat ∧
      t.sp.toNat = (s.sp.toNat + 253) % 256 ∧ t.flag .interruptDisable = true ∧
      WritesOnlyFlags [.interruptDisable] s t ∧ KeepsRegisters [.pc, .sp] s t ∧
      KeepsTransients s t ∧ KeepsMemoryBut [a1, a2, a3] s t

/-- In every state, with a1, a2, a3 the stack addresses at SP + 1, SP + 2, SP + 3 (mod 256) in page 1, RTI reads them in that order: P is the first byte with bit 5 forced to 1 and bit 4 to 0, PC the little-endian word of the other two, SP three higher modulo 256; no other register and no byte of memory changes. -/
def Obligations.ReturnFromInterruptRestores : Prop :=
  Instr.rti.opcode = 0x40#8 ∧ ∀ (s : State) (a1 a2 a3 : Addr),
    a1.toNat = 256 + (s.sp.toNat + 1) % 256 → a2.toNat = 256 + (s.sp.toNat + 2) % 256 →
    a3.toNat = 256 + (s.sp.toNat + 3) % 256 → ∃ t b1 b2, exec .rti s = .next t ∧
      b1 = (s.bus.read a1).2 ∧ b2 = (b1.read a2).2 ∧ t.bus = (b2.read a3).2 ∧
      t.p = ((s.bus.read a1).1 &&& 0xEF#8) ||| 0x20#8 ∧
      t.pc.toNat = (b1.read a2).1.toNat + 256 * (b2.read a3).1.toNat ∧
      t.sp.toNat = (s.sp.toNat + 3) % 256 ∧ KeepsRegisters [.pc, .sp] s t ∧
      KeepsTransients s t ∧ KeepsMemoryBut [] s t

/-- In every state that meets the invariant, whose three stack bytes are plain RAM, running BRK and then RTI ends with PC one past the padding byte, P and SP as before (the pre-BRK I with them), and the other registers as before. -/
def Obligations.BreakThenReturnRoundTrips : Prop :=
  ∀ (s : State) (a1 a2 a3 : Addr), s.Inv →
    a1.toNat = 256 + s.sp.toNat → a2.toNat = 256 + (s.sp.toNat + 255) % 256 →
    a3.toNat = 256 + (s.sp.toNat + 254) % 256 → s.bus.isRam a1 = true →
    s.bus.isRam a2 = true → s.bus.isRam a3 = true →
    ∃ t u, exec .brk s = .next t ∧ exec .rti t = .next u ∧
      u.pc.toNat = (s.pc.toNat + 1) % 65536 ∧ u.p = s.p ∧ u.sp = s.sp ∧
      KeepsRegisters [.pc] s u

/-- NOP, with opcode EA, answers the state unchanged, in every state; and in every state whose byte at PC is EA, the step reports 2 cycles, makes the one opcode fetch and advances PC by 1. -/
def Obligations.NopChangesNothing : Prop :=
  Instr.nop.opcode = 0xEA#8 ∧ (∀ s : State, exec .nop s = .next s) ∧
  ∀ s : State, s.bus.peek s.pc = 0xEA#8 →
    hostStep s = .done 2#32 { s with
      pc := s.pc + 1#16, bus := (s.bus.read s.pc).2, pageCrossed := false, branchTaken := false }

/-- Every dispatch entry has the base count R321 gives its mnemonic and mode, the branch adder exactly on the Relative mode, and the page-cross adder exactly on the 23 opcodes R321 lists. (The table is the default of a parameter, which the spec marks as general knowledge: PRESUMED, assumption log 12.) -/
def Obligations.BaseCyclesAreTheDefaultTable : Prop :=
  ∀ (op : Byte) (e : DispatchEntry), dispatch op = some e →
    e.baseCycles = defaultBase e.mnemonic e.mode ∧
    (e.branchAdder = true ↔ e.mode = .relative) ∧
    (e.pageCrossAdder = true ↔ op ∈ [0xBD#8, 0xB9#8, 0xB1#8, 0x7D#8, 0x79#8, 0x71#8, 0xFD#8, 0xF9#8,
      0xF1#8, 0x3D#8, 0x39#8, 0x31#8, 0x1D#8, 0x19#8, 0x11#8, 0x5D#8, 0x59#8, 0x51#8, 0xDD#8,
      0xD9#8, 0xD1#8, 0xBE#8, 0xBC#8])

/-- For every budget of at most 2^64 - 7 cycles, every state and every bound of at least as many steps, run with the budget as its predicate never exhausts the bound: it ends with a failing step, or returns a total of at least the budget and at most 6 more. (It rests on the base counts of the default table, assumption log 12, and on the predicate seeing the accumulated cycles, log 23.) -/
def Obligations.CycleBudgetEndsTheRun : Prop :=
  ∀ (limit : BitVec 64) (n : Nat) (s : State), limit.toNat ≤ 2 ^ 64 - 7 → limit.toNat ≤ n →
    (∃ r t, run n (cycleBudget limit) () s = .failed r () t) ∨
    (∃ c t, run n (cycleBudget limit) () s = .stopped c () t ∧
      limit.toNat ≤ c.toNat ∧ c.toNat ≤ limit.toNat + 6)
end

