-- ==== Sys2Proof/Laws/Memory.lean ====
section
/-! SUPPORT. RAM: read after write, the frame of a write, and that every operation keeps the canonical
form and the size. -/

namespace Sys2Proof.Machine

/-- A write leaves every other address alone, whatever the list. -/
theorem read_write_other (m : Memory) {a b : Nat} (v : Byte) (h : b ≠ a) :
    (m.write a v).read b = m.read b := by
  induction m with
  | nil => unfold Memory.write; split <;> simp [Memory.read, h]
  | cons c m ih =>
    obtain ⟨k, u⟩ := c
    unfold Memory.write
    split
    · split <;> simp [Memory.read, h]
    · split
      · subst_vars; split <;> simp [Memory.read, h]
      · simp [Memory.read, ih]

/-- An address below every entry reads as unlisted. -/
theorem read_of_risesFrom {m : Memory} {lo a : Nat} (h : m.risesFrom lo = true) (ha : a < lo) :
    m.read a = unlistedByte := by
  induction m generalizing lo with
  | nil => rfl
  | cons c m ih =>
    obtain ⟨k, u⟩ := c
    simp only [Memory.risesFrom, Bool.and_eq_true, decide_eq_true_eq] at h
    simp [Memory.read, show a ≠ k by omega, ih h.2 (by omega)]

/-- A lower bound may be lowered. -/
theorem risesFrom_mono {m : Memory} {lo lo' : Nat} (h : m.risesFrom lo = true) (hl : lo' ≤ lo) :
    m.risesFrom lo' = true := by
  cases m with
  | nil => rfl
  | cons c m =>
    simp only [Memory.risesFrom, Bool.and_eq_true, decide_eq_true_eq] at h ⊢
    exact ⟨⟨by omega, h.1.2⟩, h.2⟩

/-- A byte written is the byte read. -/
theorem read_write_same_from {m : Memory} {lo : Nat} (h : m.risesFrom lo = true) (a : Nat)
    (v : Byte) : (m.write a v).read a = v := by
  induction m generalizing lo with
  | nil => unfold Memory.write; split <;> simp_all [Memory.read]
  | cons c m ih =>
    obtain ⟨k, u⟩ := c
    simp only [Memory.risesFrom, Bool.and_eq_true, decide_eq_true_eq] at h
    unfold Memory.write
    split
    · split
      · simp only [Memory.read, show a ≠ k by omega, if_false]
        rw [read_of_risesFrom h.2 (by omega)]; simp_all
      · simp [Memory.read]
    · split
      · subst_vars
        split
        · rw [read_of_risesFrom h.2 (by omega)]; simp_all
        · simp [Memory.read]
      · simp only [Memory.read]
        rw [if_neg (by omega)]; exact ih h.2

/-- A byte written is the byte read, in a RAM in canonical form. -/
theorem read_write_same {m : Memory} (h : m.wf = true) (a : Nat) (v : Byte) :
    (m.write a v).read a = v := read_write_same_from h a v

/-- A write keeps the rising order from any bound at most its address. -/
theorem risesFrom_write {m : Memory} {lo a : Nat} (v : Byte) (h : m.risesFrom lo = true)
    (ha : lo ≤ a) : (m.write a v).risesFrom lo = true := by
  induction m generalizing lo with
  | nil => unfold Memory.write; split <;> simp_all [Memory.risesFrom]
  | cons c m ih =>
    obtain ⟨k, u⟩ := c
    have h' := h
    simp only [Memory.risesFrom, Bool.and_eq_true, decide_eq_true_eq] at h'
    unfold Memory.write
    split
    · split
      · exact h
      · simp_all [Memory.risesFrom]
    · split
      · split
        · exact risesFrom_mono h'.2 (by omega)
        · simp_all [Memory.risesFrom]
      · simp only [Memory.risesFrom, Bool.and_eq_true, decide_eq_true_eq]
        exact ⟨h'.1, ih h'.2 (by omega)⟩

/-- A write keeps the canonical form. -/
theorem write_wf {m : Memory} (a : Nat) (v : Byte) (h : m.wf = true) : (m.write a v).wf = true :=
  risesFrom_write v h (by omega)

/-- A write inside RAM keeps every address inside it. -/
theorem write_below {m : Memory} {size a : Nat} (v : Byte) (h : m.below size = true)
    (ha : a < size) : (m.write a v).below size = true := by
  induction m with
  | nil => unfold Memory.write; split <;> simp [Memory.below, ha]
  | cons c m ih =>
    obtain ⟨k, u⟩ := c
    simp only [Memory.below, List.all_cons, Bool.and_eq_true, decide_eq_true_eq] at h
    unfold Memory.write
    split
    · split <;> simp [Memory.below, ha, h.1, h.2]
    · split
      · split <;> simp [Memory.below, ha, h.2]
      · simp only [Memory.below, List.all_cons, Bool.and_eq_true, decide_eq_true_eq]
        exact ⟨h.1, ih h.2⟩

/-- A run of writes keeps the canonical form. -/
theorem writeAll_wf {m : Memory} (a : Nat) (vs : List Byte) (h : m.wf = true) :
    (m.writeAll a vs).wf = true := by
  induction vs generalizing m a with
  | nil => exact h
  | cons v vs ih => exact ih _ (write_wf a v h)

/-- A run of writes that ends inside RAM keeps every address inside it. -/
theorem writeAll_below {m : Memory} {size a : Nat} (vs : List Byte) (h : m.below size = true)
    (ha : a + vs.length ≤ size) : (m.writeAll a vs).below size = true := by
  induction vs generalizing m a with
  | nil => exact h
  | cons v vs ih =>
    rw [List.length_cons] at ha
    exact ih (write_below v h (by omega)) (by omega)

/-- Bytes placed one by one keep the canonical form. -/
theorem place_wf {m : Memory} (vs : List (Addr × Byte)) (h : m.wf = true) :
    (m.place vs).wf = true := by
  induction vs generalizing m with
  | nil => exact h
  | cons v vs ih => exact ih (write_wf _ _ h)

/-- Consecutive indices with the unlisted bytes dropped rise strictly. -/
theorem ofRange_risesFrom (init : Nat → Byte) (n lo : Nat) :
    Memory.risesFrom lo
      (((List.range' lo n).map (fun k => (k, init k))).filter (fun c => c.2 != unlistedByte))
      = true := by
  induction n generalizing lo with
  | zero => rfl
  | succ n ih =>
    rw [List.range'_succ, List.map_cons, List.filter_cons]
    split
    · simp_all [Memory.risesFrom]
    · exact risesFrom_mono (ih (lo + 1)) (by omega)

/-- The RAM a `RAM_INIT` function gives is in canonical form. -/
theorem ofInit_wf (size : Nat) (init : Nat → Byte) : (Memory.ofInit size init).wf = true := by
  unfold Memory.ofInit Memory.wf
  rw [List.range_eq_range']
  exact ofRange_risesFrom init size 0

/-- The RAM a `RAM_INIT` function gives lies inside its size. -/
theorem ofInit_below (size : Nat) (init : Nat → Byte) :
    (Memory.ofInit size init).below size = true := by
  unfold Memory.below Memory.ofInit
  rw [List.all_eq_true]
  intro c hc
  obtain ⟨k, hk, rfl⟩ := List.mem_map.mp (List.mem_filter.mp hc).1
  simpa using hk

/-- The RAM a `RAM_INIT` function gives holds its bytes (R5, R31). -/
theorem read_ofRange (init : Nat → Byte) (n lo k : Nat) (h : lo ≤ k) (hk : k < lo + n) :
    Memory.read
      (((List.range' lo n).map (fun k => (k, init k))).filter (fun c => c.2 != unlistedByte)) k
      = init k := by
  induction n generalizing lo with
  | zero => omega
  | succ n ih =>
    rw [List.range'_succ, List.map_cons, List.filter_cons]
    by_cases hlo : k = lo
    · subst hlo
      split
      · simp [Memory.read]
      · rw [read_of_risesFrom (ofRange_risesFrom init n (k + 1)) (by omega)]
        simp_all
    · split
      · simp only [Memory.read, if_neg hlo]; exact ih (lo + 1) (by omega) (by omega)
      · exact ih (lo + 1) (by omega) (by omega)

theorem read_ofInit (size : Nat) (init : Nat → Byte) {k : Nat} (h : k < size) :
    (Memory.ofInit size init).read k = init k := by
  unfold Memory.ofInit
  rw [List.range_eq_range']
  exact read_ofRange init size 0 k (by omega) (by omega)

end Sys2Proof.Machine
end

