-- ==== Sys2Proof/Laws/Bus.lean ====
section
/-! SUPPORT. The bus router: which of the three outcomes an access has, what it leaves alone, and that
every access keeps the bus lawful (R51 to R56). -/

namespace Sys2Proof.Machine

/-! Devices keep their configuration. -/

@[simp] theorem arrive_outAddr (b : Bridge) : b.arrive.outAddr = b.outAddr := by
  unfold Bridge.arrive; split <;> rfl
@[simp] theorem arrive_statusAddr (b : Bridge) : b.arrive.statusAddr = b.statusAddr := by
  unfold Bridge.arrive; split <;> rfl
@[simp] theorem arrive_dataAddr (b : Bridge) : b.arrive.dataAddr = b.dataAddr := by
  unfold Bridge.arrive; split <;> rfl
@[simp] theorem arrive_sink (b : Bridge) : b.arrive.sink = b.sink := by
  unfold Bridge.arrive; split <;> rfl

/-- A read of InputData keeps the addresses and the sink. -/
theorem readData_keeps (b : Bridge) :
    b.readData.2.outAddr = b.outAddr ∧ b.readData.2.statusAddr = b.statusAddr ∧
      b.readData.2.dataAddr = b.dataAddr ∧ b.readData.2.sink = b.sink := by
  unfold Bridge.readData; repeat' split
  all_goals exact ⟨rfl, rfl, rfl, rfl⟩

/-- A bridge read keeps the three addresses and the sink. -/
theorem bridge_read_keeps (b : Bridge) (a : Addr) :
    (b.read a).2.outAddr = b.outAddr ∧ (b.read a).2.statusAddr = b.statusAddr ∧
      (b.read a).2.dataAddr = b.dataAddr ∧ (b.read a).2.sink = b.sink := by
  unfold Bridge.read
  split
  · exact ⟨rfl, rfl, rfl, rfl⟩
  · split
    · simp [Bridge.readStatus]
    · split
      · simpa using readData_keeps b.arrive
      · exact ⟨rfl, rfl, rfl, rfl⟩

/-- A bridge write keeps the addresses and the FIFO. -/
theorem bridge_write_keeps (b : Bridge) (a : Addr) (v : Byte) :
    (b.write a v).outAddr = b.outAddr ∧ (b.write a v).statusAddr = b.statusAddr ∧
      (b.write a v).dataAddr = b.dataAddr ∧ (b.write a v).fifo = b.fifo := by
  unfold Bridge.write; split <;> exact ⟨rfl, rfl, rfl, rfl⟩

/-- What a device claims is fixed: a read does not change it (R54, D5). -/
@[simp] theorem device_read_handles (d : Device) (a c : Addr) :
    (d.read a).2.handles c = d.handles c := by
  cases d with
  | console b =>
    obtain ⟨h1, h2, h3, -⟩ := bridge_read_keeps b a
    simp [Device.read, Device.handles, Bridge.handles, h1, h2, h3]
  | other d => rfl

/-- A write does not change it either. -/
@[simp] theorem device_write_handles (d : Device) (a c : Addr) (v : Byte) :
    (d.write a v).handles c = d.handles c := by
  cases d with
  | console b =>
    obtain ⟨h1, h2, h3, -⟩ := bridge_write_keeps b a v
    simp [Device.write, Device.handles, Bridge.handles, h1, h2, h3]
  | other d => rfl

@[simp] theorem device_read_wf (d : Device) (a : Addr) : (d.read a).2.wf = d.wf := by
  cases d with
  | console b =>
    obtain ⟨h1, h2, h3, -⟩ := bridge_read_keeps b a
    simp [Device.read, Device.wf, Bridge.wf, h1, h2, h3]
  | other d => rfl

@[simp] theorem device_write_wf (d : Device) (a : Addr) (v : Byte) :
    (d.write a v).wf = d.wf := by
  cases d with
  | console b =>
    obtain ⟨h1, h2, h3, -⟩ := bridge_write_keeps b a v
    simp [Device.write, Device.wf, Bridge.wf, h1, h2, h3]
  | other d => rfl

/-! The device router. -/

/-- No device answers exactly where none claims (R51). -/
theorem readDevices_none {ds : List Device} {a : Addr} :
    readDevices ds a = none ↔ ds.any (fun d => d.handles a) = false := by
  induction ds with
  | nil => simp [readDevices]
  | cons d ds ih => unfold readDevices; split <;> simp_all

/-- No device takes a write exactly where none claims (R53). -/
theorem writeDevices_none {ds : List Device} {a : Addr} {v : Byte} :
    writeDevices ds a v = none ↔ ds.any (fun d => d.handles a) = false := by
  induction ds with
  | nil => simp [writeDevices]
  | cons d ds ih => unfold writeDevices; split <;> simp_all

/-- A device that answers is the first that claims the address; it alone changes, and keeps its
configuration. -/
theorem readDevices_some {ds : List Device} {a : Addr} {r : Byte × List Device}
    (h : readDevices ds a = some r) :
    ∃ pre d post, ds = pre ++ d :: post ∧ pre.any (fun d => d.handles a) = false ∧
      d.handles a = true ∧ r = ((d.read a).1, pre ++ (d.read a).2 :: post) := by
  induction ds generalizing r with
  | nil => simp [readDevices] at h
  | cons d ds ih =>
    unfold readDevices at h
    split at h
    · rename_i hd
      exact ⟨[], d, ds, rfl, rfl, hd, by simpa using h.symm⟩
    · rename_i hd
      obtain ⟨r', hr', rfl⟩ := Option.map_eq_some_iff.mp h
      obtain ⟨pre, e, post, rfl, hpre, he, rfl⟩ := ih hr'
      exact ⟨d :: pre, e, post, rfl, by simp_all, he, rfl⟩

/-- The same of a write. -/
theorem writeDevices_some {ds r : List Device} {a : Addr} {v : Byte}
    (h : writeDevices ds a v = some r) :
    ∃ pre d post, ds = pre ++ d :: post ∧ pre.any (fun d => d.handles a) = false ∧
      d.handles a = true ∧ r = pre ++ d.write a v :: post := by
  induction ds generalizing r with
  | nil => simp [writeDevices] at h
  | cons d ds ih =>
    unfold writeDevices at h
    split at h
    · rename_i hd
      exact ⟨[], d, ds, rfl, rfl, hd, by simpa using h.symm⟩
    · rename_i hd
      obtain ⟨r', hr', rfl⟩ := Option.map_eq_some_iff.mp h
      obtain ⟨pre, e, post, rfl, hpre, he, rfl⟩ := ih hr'
      exact ⟨d :: pre, e, post, rfl, by simp_all, he, rfl⟩

/-! Bus accesses. -/

/-- A read leaves RAM_SIZE alone. -/
@[simp] theorem read_ramSize (b : Bus) (a : Addr) : (b.read a).2.ramSize = b.ramSize := by
  unfold Bus.read; split <;> rfl

/-- A read leaves every byte of RAM alone (R64). -/
@[simp] theorem read_mem (b : Bus) (a : Addr) : (b.read a).2.mem = b.mem := by
  unfold Bus.read; split <;> rfl

@[simp] theorem read_ramByte (b : Bus) (a : Addr) (k : Nat) :
    (b.read a).2.ramByte k = b.ramByte k := by simp [Bus.ramByte]

/-- Which addresses devices claim is fixed (R54): a read does not change it. -/
@[simp] theorem read_claimed (b : Bus) (a c : Addr) :
    (b.read a).2.claimed c = b.claimed c := by
  unfold Bus.read
  split
  · rename_i r hr
    obtain ⟨pre, d, post, hds, -, -, rfl⟩ := readDevices_some hr
    simp [Bus.claimed, hds]
  · rfl

/-- A write leaves RAM_SIZE alone. -/
@[simp] theorem write_ramSize (b : Bus) (a : Addr) (v : Byte) :
    (b.write a v).ramSize = b.ramSize := by
  unfold Bus.write; repeat' split
  all_goals rfl

/-- Which addresses devices claim is fixed (R54): a write does not change it. -/
@[simp] theorem write_claimed (b : Bus) (a c : Addr) (v : Byte) :
    (b.write a v).claimed c = b.claimed c := by
  unfold Bus.write
  split
  · rename_i ds hds
    obtain ⟨pre, d, post, hd, -, -, rfl⟩ := writeDevices_some hds
    simp [Bus.claimed, hd]
  · split <;> rfl

/-- A write leaves every other byte of RAM alone (R53). -/
theorem write_ramByte_other (b : Bus) (a : Addr) (v : Byte) {k : Nat} (h : k ≠ a.toNat) :
    (b.write a v).ramByte k = b.ramByte k := by
  unfold Bus.write
  split
  · rfl
  · split
    · exact read_write_other _ _ h
    · rfl

/-- A write where no device claims leaves the devices alone. -/
theorem write_devices_unclaimed {b : Bus} {a : Addr} (v : Byte) (h : b.claimed a = false) :
    (b.write a v).devices = b.devices := by
  have h' := (writeDevices_none (v := v)).mpr h
  unfold Bus.write
  simp only [h']
  split <;> rfl

/-- A read of plain RAM gives its byte and changes nothing (R51, R64). -/
theorem read_of_isRam {b : Bus} {a : Addr} (h : b.isRam a = true) :
    b.read a = (b.ramByte a.toNat, b) := by
  simp only [Bus.isRam, Bool.and_eq_true, Bool.not_eq_true', decide_eq_true_eq] at h
  have h' := readDevices_none.mpr h.1
  unfold Bus.read
  simp [h', h.2, Bus.ramByte]

/-- A read of open bus gives 0xFF and changes nothing (R51). -/
theorem read_of_openBus {b : Bus} {a : Addr} (h : b.claimed a = false)
    (hr : b.ramSize ≤ a.toNat) : b.read a = (Config.openBusByte, b) := by
  have h' := readDevices_none.mpr h
  unfold Bus.read
  simp [h', show ¬ a.toNat < b.ramSize by omega]

/-- A write of plain RAM replaces its byte (R53). -/
theorem write_of_isRam {b : Bus} {a : Addr} (v : Byte) (h : b.isRam a = true) :
    b.write a v = { b with mem := b.mem.write a.toNat v } := by
  simp only [Bus.isRam, Bool.and_eq_true, Bool.not_eq_true', decide_eq_true_eq] at h
  have h' := (writeDevices_none (v := v)).mpr h.1
  unfold Bus.write
  simp [h', h.2]

/-- A write of open bus is dropped (R53). -/
theorem write_of_openBus {b : Bus} {a : Addr} (v : Byte) (h : b.claimed a = false)
    (hr : b.ramSize ≤ a.toNat) : b.write a v = b := by
  have h' := (writeDevices_none (v := v)).mpr h
  unfold Bus.write
  simp [h', show ¬ a.toNat < b.ramSize by omega]

@[simp] theorem write_isRam (b : Bus) (a c : Addr) (v : Byte) :
    (b.write a v).isRam c = b.isRam c := by simp [Bus.isRam]

@[simp] theorem read_isRam (b : Bus) (a c : Addr) : (b.read a).2.isRam c = b.isRam c := by
  simp [Bus.isRam]

/-- The parts of a lawful bus. -/
theorem bus_wf_iff (b : Bus) : b.wf = true ↔
    1 ≤ b.ramSize ∧ b.ramSize ≤ Config.maxRamSize ∧ b.mem.wf = true ∧
      b.mem.below b.ramSize = true ∧ b.devices.all Device.wf = true := by
  simp only [Bus.wf, Bool.and_eq_true, decide_eq_true_eq]; tauto

/-- A read keeps the bus lawful. -/
theorem read_wf {b : Bus} (a : Addr) (h : b.wf = true) : (b.read a).2.wf = true := by
  rw [bus_wf_iff] at h ⊢
  refine ⟨by simpa using h.1, by simpa using h.2.1, by simpa using h.2.2.1,
    by simpa using h.2.2.2.1, ?_⟩
  unfold Bus.read
  split
  · rename_i r hr
    obtain ⟨pre, d, post, hds, -, -, rfl⟩ := readDevices_some hr
    simpa [hds] using h.2.2.2.2
  · exact h.2.2.2.2

/-- A write keeps the bus lawful. -/
theorem write_bus_wf {b : Bus} (a : Addr) (v : Byte) (h : b.wf = true) :
    (b.write a v).wf = true := by
  rw [bus_wf_iff] at h
  unfold Bus.write
  split
  · rename_i ds hds
    obtain ⟨pre, d, post, hd, -, -, rfl⟩ := writeDevices_some hds
    rw [bus_wf_iff]
    exact ⟨h.1, h.2.1, h.2.2.1, h.2.2.2.1, by simpa [hd] using h.2.2.2.2⟩
  · rw [bus_wf_iff]
    split
    · rename_i hlt
      exact ⟨h.1, h.2.1, write_wf _ _ h.2.2.1, write_below _ h.2.2.2.1 hlt, h.2.2.2.2⟩
    · exact h

/-- What a read of an unclaimed address gives: the RAM byte, or open bus (R51). -/
theorem peek_unclaimed {b : Bus} {a : Addr} (h : b.claimed a = false) :
    b.peek a = if a.toNat < b.ramSize then b.ramByte a.toNat else Config.openBusByte := by
  have h' := readDevices_none.mpr h
  simp [Bus.peek, Bus.read, h', Bus.ramByte]

/-- A byte written to plain RAM is the byte read next (R68). -/
theorem read_write_ram {b : Bus} (hb : b.wf = true) {a : Addr} (v : Byte)
    (h : b.isRam a = true) : ((b.write a v).read a).1 = v := by
  rw [read_of_isRam (by simpa using h), write_of_isRam v h]
  exact read_write_same ((bus_wf_iff b).mp hb).2.2.1 _ _

end Sys2Proof.Machine
end

