-- ==== Sys2Proof/Laws/State.lean ====
section
/-! SUPPORT. One lemma per field per update of `State`, each true by rfl, so that no proof unfolds a
record update. -/

namespace Sys2Proof.Machine
variable (s : State)

/-! `setA` -/
@[simp] theorem setA_a (v : Byte) : (s.setA v).a = v := rfl
@[simp] theorem setA_x (v : Byte) : (s.setA v).x = s.x := rfl
@[simp] theorem setA_y (v : Byte) : (s.setA v).y = s.y := rfl
@[simp] theorem setA_sp (v : Byte) : (s.setA v).sp = s.sp := rfl
@[simp] theorem setA_p (v : Byte) : (s.setA v).p = s.p := rfl
@[simp] theorem setA_pc (v : Byte) : (s.setA v).pc = s.pc := rfl
@[simp] theorem setA_pageCrossed (v : Byte) : (s.setA v).pageCrossed = s.pageCrossed := rfl
@[simp] theorem setA_branchTaken (v : Byte) : (s.setA v).branchTaken = s.branchTaken := rfl
@[simp] theorem setA_bus (v : Byte) : (s.setA v).bus = s.bus := rfl

/-! `setX` -/
@[simp] theorem setX_a (v : Byte) : (s.setX v).a = s.a := rfl
@[simp] theorem setX_x (v : Byte) : (s.setX v).x = v := rfl
@[simp] theorem setX_y (v : Byte) : (s.setX v).y = s.y := rfl
@[simp] theorem setX_sp (v : Byte) : (s.setX v).sp = s.sp := rfl
@[simp] theorem setX_p (v : Byte) : (s.setX v).p = s.p := rfl
@[simp] theorem setX_pc (v : Byte) : (s.setX v).pc = s.pc := rfl
@[simp] theorem setX_pageCrossed (v : Byte) : (s.setX v).pageCrossed = s.pageCrossed := rfl
@[simp] theorem setX_branchTaken (v : Byte) : (s.setX v).branchTaken = s.branchTaken := rfl
@[simp] theorem setX_bus (v : Byte) : (s.setX v).bus = s.bus := rfl

/-! `setY` -/
@[simp] theorem setY_a (v : Byte) : (s.setY v).a = s.a := rfl
@[simp] theorem setY_x (v : Byte) : (s.setY v).x = s.x := rfl
@[simp] theorem setY_y (v : Byte) : (s.setY v).y = v := rfl
@[simp] theorem setY_sp (v : Byte) : (s.setY v).sp = s.sp := rfl
@[simp] theorem setY_p (v : Byte) : (s.setY v).p = s.p := rfl
@[simp] theorem setY_pc (v : Byte) : (s.setY v).pc = s.pc := rfl
@[simp] theorem setY_pageCrossed (v : Byte) : (s.setY v).pageCrossed = s.pageCrossed := rfl
@[simp] theorem setY_branchTaken (v : Byte) : (s.setY v).branchTaken = s.branchTaken := rfl
@[simp] theorem setY_bus (v : Byte) : (s.setY v).bus = s.bus := rfl

/-! `setSp` -/
@[simp] theorem setSp_a (v : Byte) : (s.setSp v).a = s.a := rfl
@[simp] theorem setSp_x (v : Byte) : (s.setSp v).x = s.x := rfl
@[simp] theorem setSp_y (v : Byte) : (s.setSp v).y = s.y := rfl
@[simp] theorem setSp_sp (v : Byte) : (s.setSp v).sp = v := rfl
@[simp] theorem setSp_p (v : Byte) : (s.setSp v).p = s.p := rfl
@[simp] theorem setSp_pc (v : Byte) : (s.setSp v).pc = s.pc := rfl
@[simp] theorem setSp_pageCrossed (v : Byte) : (s.setSp v).pageCrossed = s.pageCrossed := rfl
@[simp] theorem setSp_branchTaken (v : Byte) : (s.setSp v).branchTaken = s.branchTaken := rfl
@[simp] theorem setSp_bus (v : Byte) : (s.setSp v).bus = s.bus := rfl

/-! `setPc` -/
@[simp] theorem setPc_a (w : Addr) : (s.setPc w).a = s.a := rfl
@[simp] theorem setPc_x (w : Addr) : (s.setPc w).x = s.x := rfl
@[simp] theorem setPc_y (w : Addr) : (s.setPc w).y = s.y := rfl
@[simp] theorem setPc_sp (w : Addr) : (s.setPc w).sp = s.sp := rfl
@[simp] theorem setPc_p (w : Addr) : (s.setPc w).p = s.p := rfl
@[simp] theorem setPc_pc (w : Addr) : (s.setPc w).pc = w := rfl
@[simp] theorem setPc_pageCrossed (w : Addr) : (s.setPc w).pageCrossed = s.pageCrossed := rfl
@[simp] theorem setPc_branchTaken (w : Addr) : (s.setPc w).branchTaken = s.branchTaken := rfl
@[simp] theorem setPc_bus (w : Addr) : (s.setPc w).bus = s.bus := rfl

/-! `setPageCrossed` -/
@[simp] theorem setPageCrossed_a (e : Bool) : (s.setPageCrossed e).a = s.a := rfl
@[simp] theorem setPageCrossed_x (e : Bool) : (s.setPageCrossed e).x = s.x := rfl
@[simp] theorem setPageCrossed_y (e : Bool) : (s.setPageCrossed e).y = s.y := rfl
@[simp] theorem setPageCrossed_sp (e : Bool) : (s.setPageCrossed e).sp = s.sp := rfl
@[simp] theorem setPageCrossed_p (e : Bool) : (s.setPageCrossed e).p = s.p := rfl
@[simp] theorem setPageCrossed_pc (e : Bool) : (s.setPageCrossed e).pc = s.pc := rfl
@[simp] theorem setPageCrossed_pageCrossed (e : Bool) : (s.setPageCrossed e).pageCrossed = e := rfl
@[simp] theorem setPageCrossed_branchTaken (e : Bool) :
    (s.setPageCrossed e).branchTaken = s.branchTaken := rfl
@[simp] theorem setPageCrossed_bus (e : Bool) : (s.setPageCrossed e).bus = s.bus := rfl

/-! `setBranchTaken` -/
@[simp] theorem setBranchTaken_a (e : Bool) : (s.setBranchTaken e).a = s.a := rfl
@[simp] theorem setBranchTaken_x (e : Bool) : (s.setBranchTaken e).x = s.x := rfl
@[simp] theorem setBranchTaken_y (e : Bool) : (s.setBranchTaken e).y = s.y := rfl
@[simp] theorem setBranchTaken_sp (e : Bool) : (s.setBranchTaken e).sp = s.sp := rfl
@[simp] theorem setBranchTaken_p (e : Bool) : (s.setBranchTaken e).p = s.p := rfl
@[simp] theorem setBranchTaken_pc (e : Bool) : (s.setBranchTaken e).pc = s.pc := rfl
@[simp] theorem setBranchTaken_pageCrossed (e : Bool) :
    (s.setBranchTaken e).pageCrossed = s.pageCrossed := rfl
@[simp] theorem setBranchTaken_branchTaken (e : Bool) : (s.setBranchTaken e).branchTaken = e := rfl
@[simp] theorem setBranchTaken_bus (e : Bool) : (s.setBranchTaken e).bus = s.bus := rfl

/-! `setBus` -/
@[simp] theorem setBus_a (b : Bus) : (s.setBus b).a = s.a := rfl
@[simp] theorem setBus_x (b : Bus) : (s.setBus b).x = s.x := rfl
@[simp] theorem setBus_y (b : Bus) : (s.setBus b).y = s.y := rfl
@[simp] theorem setBus_sp (b : Bus) : (s.setBus b).sp = s.sp := rfl
@[simp] theorem setBus_p (b : Bus) : (s.setBus b).p = s.p := rfl
@[simp] theorem setBus_pc (b : Bus) : (s.setBus b).pc = s.pc := rfl
@[simp] theorem setBus_pageCrossed (b : Bus) : (s.setBus b).pageCrossed = s.pageCrossed := rfl
@[simp] theorem setBus_branchTaken (b : Bus) : (s.setBus b).branchTaken = s.branchTaken := rfl
@[simp] theorem setBus_bus (b : Bus) : (s.setBus b).bus = b := rfl

/-! `writeP` -/
@[simp] theorem writeP_a (v : Byte) : (s.writeP v).a = s.a := rfl
@[simp] theorem writeP_x (v : Byte) : (s.writeP v).x = s.x := rfl
@[simp] theorem writeP_y (v : Byte) : (s.writeP v).y = s.y := rfl
@[simp] theorem writeP_sp (v : Byte) : (s.writeP v).sp = s.sp := rfl
@[simp] theorem writeP_p (v : Byte) : (s.writeP v).p = forceUnused v := rfl
@[simp] theorem writeP_pc (v : Byte) : (s.writeP v).pc = s.pc := rfl
@[simp] theorem writeP_pageCrossed (v : Byte) : (s.writeP v).pageCrossed = s.pageCrossed := rfl
@[simp] theorem writeP_branchTaken (v : Byte) : (s.writeP v).branchTaken = s.branchTaken := rfl
@[simp] theorem writeP_bus (v : Byte) : (s.writeP v).bus = s.bus := rfl

/-! `setFlag` -/
@[simp] theorem setFlag_a (f : Flag) (e : Bool) : (s.setFlag f e).a = s.a := rfl
@[simp] theorem setFlag_x (f : Flag) (e : Bool) : (s.setFlag f e).x = s.x := rfl
@[simp] theorem setFlag_y (f : Flag) (e : Bool) : (s.setFlag f e).y = s.y := rfl
@[simp] theorem setFlag_sp (f : Flag) (e : Bool) : (s.setFlag f e).sp = s.sp := rfl
@[simp] theorem setFlag_p (f : Flag) (e : Bool) :
    (s.setFlag f e).p = forceUnused (replaceFlag f e s.p) := rfl
@[simp] theorem setFlag_pc (f : Flag) (e : Bool) : (s.setFlag f e).pc = s.pc := rfl
@[simp] theorem setFlag_pageCrossed (f : Flag) (e : Bool) :
    (s.setFlag f e).pageCrossed = s.pageCrossed := rfl
@[simp] theorem setFlag_branchTaken (f : Flag) (e : Bool) :
    (s.setFlag f e).branchTaken = s.branchTaken := rfl
@[simp] theorem setFlag_bus (f : Flag) (e : Bool) : (s.setFlag f e).bus = s.bus := rfl

/-! `setZN` -/
@[simp] theorem setZN_a (v : Byte) : (s.setZN v).a = s.a := rfl
@[simp] theorem setZN_x (v : Byte) : (s.setZN v).x = s.x := rfl
@[simp] theorem setZN_y (v : Byte) : (s.setZN v).y = s.y := rfl
@[simp] theorem setZN_sp (v : Byte) : (s.setZN v).sp = s.sp := rfl
@[simp] theorem setZN_p (v : Byte) :
    (s.setZN v).p =
      forceUnused (replaceFlag .negative v.msb (forceUnused (replaceFlag .zero (v == 0x00#8) s.p))) := rfl
@[simp] theorem setZN_pc (v : Byte) : (s.setZN v).pc = s.pc := rfl
@[simp] theorem setZN_pageCrossed (v : Byte) : (s.setZN v).pageCrossed = s.pageCrossed := rfl
@[simp] theorem setZN_branchTaken (v : Byte) : (s.setZN v).branchTaken = s.branchTaken := rfl
@[simp] theorem setZN_bus (v : Byte) : (s.setZN v).bus = s.bus := rfl

/-! Bus accesses and fetches: every field but the ones named. -/
@[simp] theorem busRead_a (a : Addr) : (s.busRead a).2.a = s.a := rfl
@[simp] theorem busWrite_a (a : Addr) (v : Byte) : (s.busWrite a v).a = s.a := rfl
@[simp] theorem busRead_x (a : Addr) : (s.busRead a).2.x = s.x := rfl
@[simp] theorem busWrite_x (a : Addr) (v : Byte) : (s.busWrite a v).x = s.x := rfl
@[simp] theorem busRead_y (a : Addr) : (s.busRead a).2.y = s.y := rfl
@[simp] theorem busWrite_y (a : Addr) (v : Byte) : (s.busWrite a v).y = s.y := rfl
@[simp] theorem busRead_sp (a : Addr) : (s.busRead a).2.sp = s.sp := rfl
@[simp] theorem busWrite_sp (a : Addr) (v : Byte) : (s.busWrite a v).sp = s.sp := rfl
@[simp] theorem busRead_p (a : Addr) : (s.busRead a).2.p = s.p := rfl
@[simp] theorem busWrite_p (a : Addr) (v : Byte) : (s.busWrite a v).p = s.p := rfl
@[simp] theorem busRead_pc (a : Addr) : (s.busRead a).2.pc = s.pc := rfl
@[simp] theorem busWrite_pc (a : Addr) (v : Byte) : (s.busWrite a v).pc = s.pc := rfl
@[simp] theorem busRead_pageCrossed (a : Addr) : (s.busRead a).2.pageCrossed = s.pageCrossed := rfl
@[simp] theorem busWrite_pageCrossed (a : Addr) (v : Byte) : (s.busWrite a v).pageCrossed = s.pageCrossed := rfl
@[simp] theorem busRead_branchTaken (a : Addr) : (s.busRead a).2.branchTaken = s.branchTaken := rfl
@[simp] theorem busWrite_branchTaken (a : Addr) (v : Byte) : (s.busWrite a v).branchTaken = s.branchTaken := rfl
@[simp] theorem busRead_bus (a : Addr) : (s.busRead a).2.bus = (s.bus.read a).2 := rfl
@[simp] theorem busRead_value (a : Addr) : (s.busRead a).1 = (s.bus.read a).1 := rfl
@[simp] theorem busWrite_bus (a : Addr) (v : Byte) : (s.busWrite a v).bus = s.bus.write a v := rfl

@[simp] theorem fetchByte_a : s.fetchByte.2.a = s.a := rfl
@[simp] theorem fetchByte_x : s.fetchByte.2.x = s.x := rfl
@[simp] theorem fetchByte_y : s.fetchByte.2.y = s.y := rfl
@[simp] theorem fetchByte_sp : s.fetchByte.2.sp = s.sp := rfl
@[simp] theorem fetchByte_p : s.fetchByte.2.p = s.p := rfl
@[simp] theorem fetchByte_pageCrossed : s.fetchByte.2.pageCrossed = s.pageCrossed := rfl
@[simp] theorem fetchByte_branchTaken : s.fetchByte.2.branchTaken = s.branchTaken := rfl
@[simp] theorem fetchByte_pc : s.fetchByte.2.pc = s.pc + 1#16 := rfl
@[simp] theorem fetchByte_bus : s.fetchByte.2.bus = (s.bus.read s.pc).2 := rfl
@[simp] theorem fetchByte_value : s.fetchByte.1 = (s.bus.read s.pc).1 := rfl

@[simp] theorem fetchWord_a : s.fetchWord.2.a = s.a := rfl
@[simp] theorem fetchWord_x : s.fetchWord.2.x = s.x := rfl
@[simp] theorem fetchWord_y : s.fetchWord.2.y = s.y := rfl
@[simp] theorem fetchWord_sp : s.fetchWord.2.sp = s.sp := rfl
@[simp] theorem fetchWord_p : s.fetchWord.2.p = s.p := rfl
@[simp] theorem fetchWord_pageCrossed : s.fetchWord.2.pageCrossed = s.pageCrossed := rfl
@[simp] theorem fetchWord_branchTaken : s.fetchWord.2.branchTaken = s.branchTaken := rfl
@[simp] theorem fetchWord_pc : s.fetchWord.2.pc = s.pc + 1#16 + 1#16 := rfl

@[simp] theorem readPair_a (l h : Addr) : (s.readPair l h).2.a = s.a := rfl
@[simp] theorem readPair_x (l h : Addr) : (s.readPair l h).2.x = s.x := rfl
@[simp] theorem readPair_y (l h : Addr) : (s.readPair l h).2.y = s.y := rfl
@[simp] theorem readPair_sp (l h : Addr) : (s.readPair l h).2.sp = s.sp := rfl
@[simp] theorem readPair_p (l h : Addr) : (s.readPair l h).2.p = s.p := rfl
@[simp] theorem readPair_pc (l h : Addr) : (s.readPair l h).2.pc = s.pc := rfl
@[simp] theorem readPair_pageCrossed (l h : Addr) : (s.readPair l h).2.pageCrossed = s.pageCrossed := rfl
@[simp] theorem readPair_branchTaken (l h : Addr) : (s.readPair l h).2.branchTaken = s.branchTaken := rfl
@[simp] theorem readPair_bus (l h : Addr) :
    (s.readPair l h).2.bus = ((s.bus.read l).2.read h).2 := rfl
@[simp] theorem readPair_value (l h : Addr) :
    (s.readPair l h).1 = mkWord ((s.bus.read l).2.read h).1 (s.bus.read l).1 := rfl

@[simp] theorem push_a (v : Byte) : (s.push v).a = s.a := rfl
@[simp] theorem push_x (v : Byte) : (s.push v).x = s.x := rfl
@[simp] theorem push_y (v : Byte) : (s.push v).y = s.y := rfl
@[simp] theorem push_p (v : Byte) : (s.push v).p = s.p := rfl
@[simp] theorem push_pc (v : Byte) : (s.push v).pc = s.pc := rfl
@[simp] theorem push_pageCrossed (v : Byte) : (s.push v).pageCrossed = s.pageCrossed := rfl
@[simp] theorem push_branchTaken (v : Byte) : (s.push v).branchTaken = s.branchTaken := rfl
@[simp] theorem push_sp (v : Byte) : (s.push v).sp = s.sp - 1#8 := rfl
@[simp] theorem push_bus (v : Byte) : (s.push v).bus = s.bus.write (stackAddr s.sp) v := rfl

@[simp] theorem pull_a : s.pull.2.a = s.a := rfl
@[simp] theorem pull_x : s.pull.2.x = s.x := rfl
@[simp] theorem pull_y : s.pull.2.y = s.y := rfl
@[simp] theorem pull_p : s.pull.2.p = s.p := rfl
@[simp] theorem pull_pc : s.pull.2.pc = s.pc := rfl
@[simp] theorem pull_pageCrossed : s.pull.2.pageCrossed = s.pageCrossed := rfl
@[simp] theorem pull_branchTaken : s.pull.2.branchTaken = s.branchTaken := rfl
@[simp] theorem pull_sp : s.pull.2.sp = s.sp + 1#8 := rfl
@[simp] theorem pull_bus : s.pull.2.bus = (s.bus.read (stackAddr (s.sp + 1#8))).2 := rfl
@[simp] theorem pull_value : s.pull.1 = (s.bus.read (stackAddr (s.sp + 1#8))).1 := rfl

@[simp] theorem pushWord_a (w : Addr) : (s.pushWord w).a = s.a := rfl
@[simp] theorem pushWord_x (w : Addr) : (s.pushWord w).x = s.x := rfl
@[simp] theorem pushWord_y (w : Addr) : (s.pushWord w).y = s.y := rfl
@[simp] theorem pushWord_p (w : Addr) : (s.pushWord w).p = s.p := rfl
@[simp] theorem pushWord_pc (w : Addr) : (s.pushWord w).pc = s.pc := rfl
@[simp] theorem pushWord_pageCrossed (w : Addr) : (s.pushWord w).pageCrossed = s.pageCrossed := rfl
@[simp] theorem pushWord_branchTaken (w : Addr) : (s.pushWord w).branchTaken = s.branchTaken := rfl
@[simp] theorem pushWord_sp (w : Addr) : (s.pushWord w).sp = s.sp - 1#8 - 1#8 := rfl

@[simp] theorem pullWord_a : s.pullWord.2.a = s.a := rfl
@[simp] theorem pullWord_x : s.pullWord.2.x = s.x := rfl
@[simp] theorem pullWord_y : s.pullWord.2.y = s.y := rfl
@[simp] theorem pullWord_p : s.pullWord.2.p = s.p := rfl
@[simp] theorem pullWord_pc : s.pullWord.2.pc = s.pc := rfl
@[simp] theorem pullWord_pageCrossed : s.pullWord.2.pageCrossed = s.pageCrossed := rfl
@[simp] theorem pullWord_branchTaken : s.pullWord.2.branchTaken = s.branchTaken := rfl
@[simp] theorem pullWord_sp : s.pullWord.2.sp = s.sp + 1#8 + 1#8 := rfl

end Sys2Proof.Machine
end

