-- ==== Sys2Proof/Laws/Flags.lean ====
section
/-! SUPPORT. What reading a flag gives after each write of P (R25, R143, R144). -/

namespace Sys2Proof.Machine

/-- `WriteP` forces Unused and keeps every other bit (R144). -/
@[simp] theorem flagOf_forceUnused (v : Byte) (f : Flag) :
    flagOf (forceUnused v) f = (decide (f = .unused) || flagOf v f) := by
  cases f <;> simp [flagOf, forceUnused, Flag.bit]

/-- Replacing one flag keeps the others. -/
@[simp] theorem flagOf_replaceFlag (g : Flag) (e : Bool) (p : Byte) (f : Flag) :
    flagOf (replaceFlag g e p) f = if f = g then e else flagOf p f := by
  cases e <;> cases g <;> cases f <;> simp [flagOf, replaceFlag, Flag.bit, Flag.mask]

/-- The pushed copy of P has Break set (R237). -/
@[simp] theorem flagOf_pushedStatus (p : Byte) (f : Flag) :
    flagOf (pushedStatus p) f = (decide (f = .break) || flagOf p f) := by
  cases f <;> simp [flagOf, pushedStatus, Flag.bit]

/-- A pulled status has Unused 1 and Break 0 (R238). -/
@[simp] theorem flagOf_pulledStatus (v : Byte) (f : Flag) :
    flagOf (pulledStatus v) f =
      (decide (f = .unused) || (decide (f ≠ .break) && flagOf v f)) := by
  cases f <;> simp [flagOf, pulledStatus, Flag.bit]

/-- A status byte is its eight flags. -/
theorem status_ext {p q : Byte} (h : ∀ f, flagOf p f = flagOf q f) : p = q := by
  apply BitVec.eq_of_getLsbD_eq
  intro i hi
  have hc := h .carry; have hz := h .zero; have hd := h .interruptDisable
  have hm := h .decimal; have hb := h .break; have hu := h .unused
  have hv := h .overflow; have hn := h .negative
  simp only [flagOf, Flag.bit] at hc hz hd hm hb hu hv hn
  have : i = 0 ∨ i = 1 ∨ i = 2 ∨ i = 3 ∨ i = 4 ∨ i = 5 ∨ i = 6 ∨ i = 7 := by omega
  rcases this with h | h | h | h | h | h | h | h <;> subst h <;> assumption

variable (s : State)

@[simp] theorem flag_setA (v : Byte) (f : Flag) : (s.setA v).flag f = s.flag f := rfl
@[simp] theorem flag_setX (v : Byte) (f : Flag) : (s.setX v).flag f = s.flag f := rfl
@[simp] theorem flag_setY (v : Byte) (f : Flag) : (s.setY v).flag f = s.flag f := rfl
@[simp] theorem flag_setSp (v : Byte) (f : Flag) : (s.setSp v).flag f = s.flag f := rfl
@[simp] theorem flag_setPc (w : Addr) (f : Flag) : (s.setPc w).flag f = s.flag f := rfl
@[simp] theorem flag_setBus (b : Bus) (f : Flag) : (s.setBus b).flag f = s.flag f := rfl
@[simp] theorem flag_setPageCrossed (e : Bool) (f : Flag) :
    (s.setPageCrossed e).flag f = s.flag f := rfl
@[simp] theorem flag_setBranchTaken (e : Bool) (f : Flag) :
    (s.setBranchTaken e).flag f = s.flag f := rfl
@[simp] theorem flag_busRead (a : Addr) (f : Flag) : (s.busRead a).2.flag f = s.flag f := rfl
@[simp] theorem flag_busWrite (a : Addr) (v : Byte) (f : Flag) :
    (s.busWrite a v).flag f = s.flag f := rfl
@[simp] theorem flag_push (v : Byte) (f : Flag) : (s.push v).flag f = s.flag f := rfl
@[simp] theorem flag_pull (f : Flag) : s.pull.2.flag f = s.flag f := rfl
@[simp] theorem flag_pushWord (w : Addr) (f : Flag) : (s.pushWord w).flag f = s.flag f := rfl
@[simp] theorem flag_pullWord (f : Flag) : s.pullWord.2.flag f = s.flag f := rfl

/-- Reading P after `WriteP`. -/
@[simp] theorem flag_writeP (v : Byte) (f : Flag) :
    (s.writeP v).flag f = (decide (f = .unused) || flagOf v f) := flagOf_forceUnused v f

/-- Reading a flag after one flag is written (R144). -/
@[simp] theorem flag_setFlag (g : Flag) (e : Bool) (f : Flag) :
    (s.setFlag g e).flag f = (decide (f = .unused) || if f = g then e else s.flag f) := by
  simp [State.setFlag, State.flag]

/-- Reading a flag after `SetZN` (R143). -/
@[simp] theorem flag_setZN (v : Byte) (f : Flag) :
    (s.setZN v).flag f = (decide (f = .unused) ||
      if f = .negative then v.msb else if f = .zero then v == 0x00#8 else s.flag f) := by
  cases f <;> simp [State.setZN]

/-- Reading a flag after a status pull (R238). -/
@[simp] theorem flag_pullStatus (f : Flag) :
    s.pullStatus.flag f =
      (decide (f = .unused) || (decide (f ≠ .break) && flagOf s.pull.1 f)) := by
  cases f <;> simp [State.pullStatus]

end Sys2Proof.Machine
end

