-- ==== Sys2Proof/Laws/PerInstr.lean ====
section
/-! SUPPORT. Per instruction: the dispatch entry its opcode selects is its own row, and the entry makes
the instruction of its operand bytes (R93, R95). -/

namespace Sys2Proof
open Sys2Proof.Machine

/-- A word is its two bytes. -/
@[simp] theorem mkWord_hi_lo (w : Addr) : mkWord (hiByte w) (loByte w) = w := by
  unfold mkWord hiByte loByte
  apply BitVec.eq_of_toNat_eq
  rw [BitVec.toNat_append, BitVec.toNat_setWidth, BitVec.toNat_setWidth, BitVec.toNat_ushiftRight,
    ← Nat.shiftLeft_add_eq_or_of_lt (by omega), Nat.shiftRight_eq_div_pow, Nat.shiftLeft_eq]
  have := w.isLt
  omega

@[simp] theorem loByte_mkWord (hi lo : Byte) : loByte (mkWord hi lo) = lo := by
  unfold mkWord loByte
  exact BitVec.setWidth_append_eq_right

@[simp] theorem hiByte_mkWord (hi lo : Byte) : hiByte (mkWord hi lo) = hi := by
  unfold mkWord hiByte
  apply BitVec.eq_of_toNat_eq
  rw [BitVec.toNat_setWidth, BitVec.toNat_ushiftRight, BitVec.toNat_append,
    ← Nat.shiftLeft_add_eq_or_of_lt lo.isLt, Nat.shiftRight_eq_div_pow, Nat.shiftLeft_eq]
  have := lo.isLt; have := hi.isLt
  omega

/-- An entry's shape makes the instruction of the operand bytes of a word, low byte first (R92). -/
theorem word_of_bytes (mk : Addr → Instr) (w : Addr) (rest : List Byte) :
    (Except.ok (mk (mkWord (hiByte w) (loByte w)), rest) : Except DecodeError _) =
      .ok (mk w, rest) := by rw [mkWord_hi_lo]

/-- The opcode of `i` selects the entry of `i`'s own row, and that entry makes `i` of its operand
bytes. -/
def Laws.TableEntry.Statement (i : Instr) : Prop :=
  ∃ e, dispatch i.opcode = some e ∧ e.opcode = i.opcode ∧ e.mnemonic = i.mnemonic ∧
    e.mode = i.mode ∧ e.shape.count = i.mode.operandCount ∧
    i.operandBytes.length = i.mode.operandCount ∧
    ∀ rest, assemble e (i.operandBytes ++ rest) = .ok (i, rest)

namespace Laws.TableEntry

theorem ldaImmediate (b : Byte) : Statement (.ldaImmediate b) :=
  ⟨_, rfl, rfl, rfl, rfl, rfl, rfl, fun _ => rfl⟩
theorem ldaZeroPage (b : Byte) : Statement (.ldaZeroPage b) :=
  ⟨_, rfl, rfl, rfl, rfl, rfl, rfl, fun _ => rfl⟩
theorem ldaZeroPageX (b : Byte) : Statement (.ldaZeroPageX b) :=
  ⟨_, rfl, rfl, rfl, rfl, rfl, rfl, fun _ => rfl⟩
theorem ldaAbsolute (w : Addr) : Statement (.ldaAbsolute w) :=
  ⟨_, rfl, rfl, rfl, rfl, rfl, rfl, word_of_bytes .ldaAbsolute w⟩
theorem ldaAbsoluteX (w : Addr) : Statement (.ldaAbsoluteX w) :=
  ⟨_, rfl, rfl, rfl, rfl, rfl, rfl, word_of_bytes .ldaAbsoluteX w⟩
theorem ldaAbsoluteY (w : Addr) : Statement (.ldaAbsoluteY w) :=
  ⟨_, rfl, rfl, rfl, rfl, rfl, rfl, word_of_bytes .ldaAbsoluteY w⟩
theorem ldaIndexedIndirect (b : Byte) : Statement (.ldaIndexedIndirect b) :=
  ⟨_, rfl, rfl, rfl, rfl, rfl, rfl, fun _ => rfl⟩
theorem ldaIndirectIndexed (b : Byte) : Statement (.ldaIndirectIndexed b) :=
  ⟨_, rfl, rfl, rfl, rfl, rfl, rfl, fun _ => rfl⟩
theorem ldxImmediate (b : Byte) : Statement (.ldxImmediate b) :=
  ⟨_, rfl, rfl, rfl, rfl, rfl, rfl, fun _ => rfl⟩
theorem ldxZeroPage (b : Byte) : Statement (.ldxZeroPage b) :=
  ⟨_, rfl, rfl, rfl, rfl, rfl, rfl, fun _ => rfl⟩
theorem ldxZeroPageY (b : Byte) : Statement (.ldxZeroPageY b) :=
  ⟨_, rfl, rfl, rfl, rfl, rfl, rfl, fun _ => rfl⟩
theorem ldxAbsolute (w : Addr) : Statement (.ldxAbsolute w) :=
  ⟨_, rfl, rfl, rfl, rfl, rfl, rfl, word_of_bytes .ldxAbsolute w⟩
theorem ldxAbsoluteY (w : Addr) : Statement (.ldxAbsoluteY w) :=
  ⟨_, rfl, rfl, rfl, rfl, rfl, rfl, word_of_bytes .ldxAbsoluteY w⟩
theorem ldyImmediate (b : Byte) : Statement (.ldyImmediate b) :=
  ⟨_, rfl, rfl, rfl, rfl, rfl, rfl, fun _ => rfl⟩
theorem ldyZeroPage (b : Byte) : Statement (.ldyZeroPage b) :=
  ⟨_, rfl, rfl, rfl, rfl, rfl, rfl, fun _ => rfl⟩
theorem ldyZeroPageX (b : Byte) : Statement (.ldyZeroPageX b) :=
  ⟨_, rfl, rfl, rfl, rfl, rfl, rfl, fun _ => rfl⟩
theorem ldyAbsolute (w : Addr) : Statement (.ldyAbsolute w) :=
  ⟨_, rfl, rfl, rfl, rfl, rfl, rfl, word_of_bytes .ldyAbsolute w⟩
theorem ldyAbsoluteX (w : Addr) : Statement (.ldyAbsoluteX w) :=
  ⟨_, rfl, rfl, rfl, rfl, rfl, rfl, word_of_bytes .ldyAbsoluteX w⟩
theorem staZeroPage (b : Byte) : Statement (.staZeroPage b) :=
  ⟨_, rfl, rfl, rfl, rfl, rfl, rfl, fun _ => rfl⟩
theorem staZeroPageX (b : Byte) : Statement (.staZeroPageX b) :=
  ⟨_, rfl, rfl, rfl, rfl, rfl, rfl, fun _ => rfl⟩
theorem staAbsolute (w : Addr) : Statement (.staAbsolute w) :=
  ⟨_, rfl, rfl, rfl, rfl, rfl, rfl, word_of_bytes .staAbsolute w⟩
theorem staAbsoluteX (w : Addr) : Statement (.staAbsoluteX w) :=
  ⟨_, rfl, rfl, rfl, rfl, rfl, rfl, word_of_bytes .staAbsoluteX w⟩
theorem staAbsoluteY (w : Addr) : Statement (.staAbsoluteY w) :=
  ⟨_, rfl, rfl, rfl, rfl, rfl, rfl, word_of_bytes .staAbsoluteY w⟩
theorem staIndexedIndirect (b : Byte) : Statement (.staIndexedIndirect b) :=
  ⟨_, rfl, rfl, rfl, rfl, rfl, rfl, fun _ => rfl⟩
theorem staIndirectIndexed (b : Byte) : Statement (.staIndirectIndexed b) :=
  ⟨_, rfl, rfl, rfl, rfl, rfl, rfl, fun _ => rfl⟩
theorem stxZeroPage (b : Byte) : Statement (.stxZeroPage b) :=
  ⟨_, rfl, rfl, rfl, rfl, rfl, rfl, fun _ => rfl⟩
theorem stxZeroPageY (b : Byte) : Statement (.stxZeroPageY b) :=
  ⟨_, rfl, rfl, rfl, rfl, rfl, rfl, fun _ => rfl⟩
theorem stxAbsolute (w : Addr) : Statement (.stxAbsolute w) :=
  ⟨_, rfl, rfl, rfl, rfl, rfl, rfl, word_of_bytes .stxAbsolute w⟩
theorem styZeroPage (b : Byte) : Statement (.styZeroPage b) :=
  ⟨_, rfl, rfl, rfl, rfl, rfl, rfl, fun _ => rfl⟩
theorem styZeroPageX (b : Byte) : Statement (.styZeroPageX b) :=
  ⟨_, rfl, rfl, rfl, rfl, rfl, rfl, fun _ => rfl⟩
theorem styAbsolute (w : Addr) : Statement (.styAbsolute w) :=
  ⟨_, rfl, rfl, rfl, rfl, rfl, rfl, word_of_bytes .styAbsolute w⟩
theorem tax : Statement .tax :=
  ⟨_, rfl, rfl, rfl, rfl, rfl, rfl, fun _ => rfl⟩
theorem tay : Statement .tay :=
  ⟨_, rfl, rfl, rfl, rfl, rfl, rfl, fun _ => rfl⟩
theorem tsx : Statement .tsx :=
  ⟨_, rfl, rfl, rfl, rfl, rfl, rfl, fun _ => rfl⟩
theorem txa : Statement .txa :=
  ⟨_, rfl, rfl, rfl, rfl, rfl, rfl, fun _ => rfl⟩
theorem txs : Statement .txs :=
  ⟨_, rfl, rfl, rfl, rfl, rfl, rfl, fun _ => rfl⟩
theorem tya : Statement .tya :=
  ⟨_, rfl, rfl, rfl, rfl, rfl, rfl, fun _ => rfl⟩
theorem adcImmediate (b : Byte) : Statement (.adcImmediate b) :=
  ⟨_, rfl, rfl, rfl, rfl, rfl, rfl, fun _ => rfl⟩
theorem adcZeroPage (b : Byte) : Statement (.adcZeroPage b) :=
  ⟨_, rfl, rfl, rfl, rfl, rfl, rfl, fun _ => rfl⟩
theorem adcZeroPageX (b : Byte) : Statement (.adcZeroPageX b) :=
  ⟨_, rfl, rfl, rfl, rfl, rfl, rfl, fun _ => rfl⟩
theorem adcAbsolute (w : Addr) : Statement (.adcAbsolute w) :=
  ⟨_, rfl, rfl, rfl, rfl, rfl, rfl, word_of_bytes .adcAbsolute w⟩
theorem adcAbsoluteX (w : Addr) : Statement (.adcAbsoluteX w) :=
  ⟨_, rfl, rfl, rfl, rfl, rfl, rfl, word_of_bytes .adcAbsoluteX w⟩
theorem adcAbsoluteY (w : Addr) : Statement (.adcAbsoluteY w) :=
  ⟨_, rfl, rfl, rfl, rfl, rfl, rfl, word_of_bytes .adcAbsoluteY w⟩
theorem adcIndexedIndirect (b : Byte) : Statement (.adcIndexedIndirect b) :=
  ⟨_, rfl, rfl, rfl, rfl, rfl, rfl, fun _ => rfl⟩
theorem adcIndirectIndexed (b : Byte) : Statement (.adcIndirectIndexed b) :=
  ⟨_, rfl, rfl, rfl, rfl, rfl, rfl, fun _ => rfl⟩
theorem sbcImmediate (b : Byte) : Statement (.sbcImmediate b) :=
  ⟨_, rfl, rfl, rfl, rfl, rfl, rfl, fun _ => rfl⟩
theorem sbcZeroPage (b : Byte) : Statement (.sbcZeroPage b) :=
  ⟨_, rfl, rfl, rfl, rfl, rfl, rfl, fun _ => rfl⟩
theorem sbcZeroPageX (b : Byte) : Statement (.sbcZeroPageX b) :=
  ⟨_, rfl, rfl, rfl, rfl, rfl, rfl, fun _ => rfl⟩
theorem sbcAbsolute (w : Addr) : Statement (.sbcAbsolute w) :=
  ⟨_, rfl, rfl, rfl, rfl, rfl, rfl, word_of_bytes .sbcAbsolute w⟩
theorem sbcAbsoluteX (w : Addr) : Statement (.sbcAbsoluteX w) :=
  ⟨_, rfl, rfl, rfl, rfl, rfl, rfl, word_of_bytes .sbcAbsoluteX w⟩
theorem sbcAbsoluteY (w : Addr) : Statement (.sbcAbsoluteY w) :=
  ⟨_, rfl, rfl, rfl, rfl, rfl, rfl, word_of_bytes .sbcAbsoluteY w⟩
theorem sbcIndexedIndirect (b : Byte) : Statement (.sbcIndexedIndirect b) :=
  ⟨_, rfl, rfl, rfl, rfl, rfl, rfl, fun _ => rfl⟩
theorem sbcIndirectIndexed (b : Byte) : Statement (.sbcIndirectIndexed b) :=
  ⟨_, rfl, rfl, rfl, rfl, rfl, rfl, fun _ => rfl⟩
theorem andImmediate (b : Byte) : Statement (.andImmediate b) :=
  ⟨_, rfl, rfl, rfl, rfl, rfl, rfl, fun _ => rfl⟩
theorem andZeroPage (b : Byte) : Statement (.andZeroPage b) :=
  ⟨_, rfl, rfl, rfl, rfl, rfl, rfl, fun _ => rfl⟩
theorem andZeroPageX (b : Byte) : Statement (.andZeroPageX b) :=
  ⟨_, rfl, rfl, rfl, rfl, rfl, rfl, fun _ => rfl⟩
theorem andAbsolute (w : Addr) : Statement (.andAbsolute w) :=
  ⟨_, rfl, rfl, rfl, rfl, rfl, rfl, word_of_bytes .andAbsolute w⟩
theorem andAbsoluteX (w : Addr) : Statement (.andAbsoluteX w) :=
  ⟨_, rfl, rfl, rfl, rfl, rfl, rfl, word_of_bytes .andAbsoluteX w⟩
theorem andAbsoluteY (w : Addr) : Statement (.andAbsoluteY w) :=
  ⟨_, rfl, rfl, rfl, rfl, rfl, rfl, word_of_bytes .andAbsoluteY w⟩
theorem andIndexedIndirect (b : Byte) : Statement (.andIndexedIndirect b) :=
  ⟨_, rfl, rfl, rfl, rfl, rfl, rfl, fun _ => rfl⟩
theorem andIndirectIndexed (b : Byte) : Statement (.andIndirectIndexed b) :=
  ⟨_, rfl, rfl, rfl, rfl, rfl, rfl, fun _ => rfl⟩
theorem oraImmediate (b : Byte) : Statement (.oraImmediate b) :=
  ⟨_, rfl, rfl, rfl, rfl, rfl, rfl, fun _ => rfl⟩
theorem oraZeroPage (b : Byte) : Statement (.oraZeroPage b) :=
  ⟨_, rfl, rfl, rfl, rfl, rfl, rfl, fun _ => rfl⟩
theorem oraZeroPageX (b : Byte) : Statement (.oraZeroPageX b) :=
  ⟨_, rfl, rfl, rfl, rfl, rfl, rfl, fun _ => rfl⟩
theorem oraAbsolute (w : Addr) : Statement (.oraAbsolute w) :=
  ⟨_, rfl, rfl, rfl, rfl, rfl, rfl, word_of_bytes .oraAbsolute w⟩
theorem oraAbsoluteX (w : Addr) : Statement (.oraAbsoluteX w) :=
  ⟨_, rfl, rfl, rfl, rfl, rfl, rfl, word_of_bytes .oraAbsoluteX w⟩
theorem oraAbsoluteY (w : Addr) : Statement (.oraAbsoluteY w) :=
  ⟨_, rfl, rfl, rfl, rfl, rfl, rfl, word_of_bytes .oraAbsoluteY w⟩
theorem oraIndexedIndirect (b : Byte) : Statement (.oraIndexedIndirect b) :=
  ⟨_, rfl, rfl, rfl, rfl, rfl, rfl, fun _ => rfl⟩
theorem oraIndirectIndexed (b : Byte) : Statement (.oraIndirectIndexed b) :=
  ⟨_, rfl, rfl, rfl, rfl, rfl, rfl, fun _ => rfl⟩
theorem eorImmediate (b : Byte) : Statement (.eorImmediate b) :=
  ⟨_, rfl, rfl, rfl, rfl, rfl, rfl, fun _ => rfl⟩
theorem eorZeroPage (b : Byte) : Statement (.eorZeroPage b) :=
  ⟨_, rfl, rfl, rfl, rfl, rfl, rfl, fun _ => rfl⟩
theorem eorZeroPageX (b : Byte) : Statement (.eorZeroPageX b) :=
  ⟨_, rfl, rfl, rfl, rfl, rfl, rfl, fun _ => rfl⟩
theorem eorAbsolute (w : Addr) : Statement (.eorAbsolute w) :=
  ⟨_, rfl, rfl, rfl, rfl, rfl, rfl, word_of_bytes .eorAbsolute w⟩
theorem eorAbsoluteX (w : Addr) : Statement (.eorAbsoluteX w) :=
  ⟨_, rfl, rfl, rfl, rfl, rfl, rfl, word_of_bytes .eorAbsoluteX w⟩
theorem eorAbsoluteY (w : Addr) : Statement (.eorAbsoluteY w) :=
  ⟨_, rfl, rfl, rfl, rfl, rfl, rfl, word_of_bytes .eorAbsoluteY w⟩
theorem eorIndexedIndirect (b : Byte) : Statement (.eorIndexedIndirect b) :=
  ⟨_, rfl, rfl, rfl, rfl, rfl, rfl, fun _ => rfl⟩
theorem eorIndirectIndexed (b : Byte) : Statement (.eorIndirectIndexed b) :=
  ⟨_, rfl, rfl, rfl, rfl, rfl, rfl, fun _ => rfl⟩
theorem bitZeroPage (b : Byte) : Statement (.bitZeroPage b) :=
  ⟨_, rfl, rfl, rfl, rfl, rfl, rfl, fun _ => rfl⟩
theorem bitAbsolute (w : Addr) : Statement (.bitAbsolute w) :=
  ⟨_, rfl, rfl, rfl, rfl, rfl, rfl, word_of_bytes .bitAbsolute w⟩
theorem aslAccumulator : Statement .aslAccumulator :=
  ⟨_, rfl, rfl, rfl, rfl, rfl, rfl, fun _ => rfl⟩
theorem aslZeroPage (b : Byte) : Statement (.aslZeroPage b) :=
  ⟨_, rfl, rfl, rfl, rfl, rfl, rfl, fun _ => rfl⟩
theorem aslZeroPageX (b : Byte) : Statement (.aslZeroPageX b) :=
  ⟨_, rfl, rfl, rfl, rfl, rfl, rfl, fun _ => rfl⟩
theorem aslAbsolute (w : Addr) : Statement (.aslAbsolute w) :=
  ⟨_, rfl, rfl, rfl, rfl, rfl, rfl, word_of_bytes .aslAbsolute w⟩
theorem aslAbsoluteX (w : Addr) : Statement (.aslAbsoluteX w) :=
  ⟨_, rfl, rfl, rfl, rfl, rfl, rfl, word_of_bytes .aslAbsoluteX w⟩
theorem lsrAccumulator : Statement .lsrAccumulator :=
  ⟨_, rfl, rfl, rfl, rfl, rfl, rfl, fun _ => rfl⟩
theorem lsrZeroPage (b : Byte) : Statement (.lsrZeroPage b) :=
  ⟨_, rfl, rfl, rfl, rfl, rfl, rfl, fun _ => rfl⟩
theorem lsrZeroPageX (b : Byte) : Statement (.lsrZeroPageX b) :=
  ⟨_, rfl, rfl, rfl, rfl, rfl, rfl, fun _ => rfl⟩
theorem lsrAbsolute (w : Addr) : Statement (.lsrAbsolute w) :=
  ⟨_, rfl, rfl, rfl, rfl, rfl, rfl, word_of_bytes .lsrAbsolute w⟩
theorem lsrAbsoluteX (w : Addr) : Statement (.lsrAbsoluteX w) :=
  ⟨_, rfl, rfl, rfl, rfl, rfl, rfl, word_of_bytes .lsrAbsoluteX w⟩
theorem rolAccumulator : Statement .rolAccumulator :=
  ⟨_, rfl, rfl, rfl, rfl, rfl, rfl, fun _ => rfl⟩
theorem rolZeroPage (b : Byte) : Statement (.rolZeroPage b) :=
  ⟨_, rfl, rfl, rfl, rfl, rfl, rfl, fun _ => rfl⟩
theorem rolZeroPageX (b : Byte) : Statement (.rolZeroPageX b) :=
  ⟨_, rfl, rfl, rfl, rfl, rfl, rfl, fun _ => rfl⟩
theorem rolAbsolute (w : Addr) : Statement (.rolAbsolute w) :=
  ⟨_, rfl, rfl, rfl, rfl, rfl, rfl, word_of_bytes .rolAbsolute w⟩
theorem rolAbsoluteX (w : Addr) : Statement (.rolAbsoluteX w) :=
  ⟨_, rfl, rfl, rfl, rfl, rfl, rfl, word_of_bytes .rolAbsoluteX w⟩
theorem rorAccumulator : Statement .rorAccumulator :=
  ⟨_, rfl, rfl, rfl, rfl, rfl, rfl, fun _ => rfl⟩
theorem rorZeroPage (b : Byte) : Statement (.rorZeroPage b) :=
  ⟨_, rfl, rfl, rfl, rfl, rfl, rfl, fun _ => rfl⟩
theorem rorZeroPageX (b : Byte) : Statement (.rorZeroPageX b) :=
  ⟨_, rfl, rfl, rfl, rfl, rfl, rfl, fun _ => rfl⟩
theorem rorAbsolute (w : Addr) : Statement (.rorAbsolute w) :=
  ⟨_, rfl, rfl, rfl, rfl, rfl, rfl, word_of_bytes .rorAbsolute w⟩
theorem rorAbsoluteX (w : Addr) : Statement (.rorAbsoluteX w) :=
  ⟨_, rfl, rfl, rfl, rfl, rfl, rfl, word_of_bytes .rorAbsoluteX w⟩
theorem incZeroPage (b : Byte) : Statement (.incZeroPage b) :=
  ⟨_, rfl, rfl, rfl, rfl, rfl, rfl, fun _ => rfl⟩
theorem incZeroPageX (b : Byte) : Statement (.incZeroPageX b) :=
  ⟨_, rfl, rfl, rfl, rfl, rfl, rfl, fun _ => rfl⟩
theorem incAbsolute (w : Addr) : Statement (.incAbsolute w) :=
  ⟨_, rfl, rfl, rfl, rfl, rfl, rfl, word_of_bytes .incAbsolute w⟩
theorem incAbsoluteX (w : Addr) : Statement (.incAbsoluteX w) :=
  ⟨_, rfl, rfl, rfl, rfl, rfl, rfl, word_of_bytes .incAbsoluteX w⟩
theorem decZeroPage (b : Byte) : Statement (.decZeroPage b) :=
  ⟨_, rfl, rfl, rfl, rfl, rfl, rfl, fun _ => rfl⟩
theorem decZeroPageX (b : Byte) : Statement (.decZeroPageX b) :=
  ⟨_, rfl, rfl, rfl, rfl, rfl, rfl, fun _ => rfl⟩
theorem decAbsolute (w : Addr) : Statement (.decAbsolute w) :=
  ⟨_, rfl, rfl, rfl, rfl, rfl, rfl, word_of_bytes .decAbsolute w⟩
theorem decAbsoluteX (w : Addr) : Statement (.decAbsoluteX w) :=
  ⟨_, rfl, rfl, rfl, rfl, rfl, rfl, word_of_bytes .decAbsoluteX w⟩
theorem inx : Statement .inx :=
  ⟨_, rfl, rfl, rfl, rfl, rfl, rfl, fun _ => rfl⟩
theorem iny : Statement .iny :=
  ⟨_, rfl, rfl, rfl, rfl, rfl, rfl, fun _ => rfl⟩
theorem dex : Statement .dex :=
  ⟨_, rfl, rfl, rfl, rfl, rfl, rfl, fun _ => rfl⟩
theorem dey : Statement .dey :=
  ⟨_, rfl, rfl, rfl, rfl, rfl, rfl, fun _ => rfl⟩
theorem cmpImmediate (b : Byte) : Statement (.cmpImmediate b) :=
  ⟨_, rfl, rfl, rfl, rfl, rfl, rfl, fun _ => rfl⟩
theorem cmpZeroPage (b : Byte) : Statement (.cmpZeroPage b) :=
  ⟨_, rfl, rfl, rfl, rfl, rfl, rfl, fun _ => rfl⟩
theorem cmpZeroPageX (b : Byte) : Statement (.cmpZeroPageX b) :=
  ⟨_, rfl, rfl, rfl, rfl, rfl, rfl, fun _ => rfl⟩
theorem cmpAbsolute (w : Addr) : Statement (.cmpAbsolute w) :=
  ⟨_, rfl, rfl, rfl, rfl, rfl, rfl, word_of_bytes .cmpAbsolute w⟩
theorem cmpAbsoluteX (w : Addr) : Statement (.cmpAbsoluteX w) :=
  ⟨_, rfl, rfl, rfl, rfl, rfl, rfl, word_of_bytes .cmpAbsoluteX w⟩
theorem cmpAbsoluteY (w : Addr) : Statement (.cmpAbsoluteY w) :=
  ⟨_, rfl, rfl, rfl, rfl, rfl, rfl, word_of_bytes .cmpAbsoluteY w⟩
theorem cmpIndexedIndirect (b : Byte) : Statement (.cmpIndexedIndirect b) :=
  ⟨_, rfl, rfl, rfl, rfl, rfl, rfl, fun _ => rfl⟩
theorem cmpIndirectIndexed (b : Byte) : Statement (.cmpIndirectIndexed b) :=
  ⟨_, rfl, rfl, rfl, rfl, rfl, rfl, fun _ => rfl⟩
theorem cpxImmediate (b : Byte) : Statement (.cpxImmediate b) :=
  ⟨_, rfl, rfl, rfl, rfl, rfl, rfl, fun _ => rfl⟩
theorem cpxZeroPage (b : Byte) : Statement (.cpxZeroPage b) :=
  ⟨_, rfl, rfl, rfl, rfl, rfl, rfl, fun _ => rfl⟩
theorem cpxAbsolute (w : Addr) : Statement (.cpxAbsolute w) :=
  ⟨_, rfl, rfl, rfl, rfl, rfl, rfl, word_of_bytes .cpxAbsolute w⟩
theorem cpyImmediate (b : Byte) : Statement (.cpyImmediate b) :=
  ⟨_, rfl, rfl, rfl, rfl, rfl, rfl, fun _ => rfl⟩
theorem cpyZeroPage (b : Byte) : Statement (.cpyZeroPage b) :=
  ⟨_, rfl, rfl, rfl, rfl, rfl, rfl, fun _ => rfl⟩
theorem cpyAbsolute (w : Addr) : Statement (.cpyAbsolute w) :=
  ⟨_, rfl, rfl, rfl, rfl, rfl, rfl, word_of_bytes .cpyAbsolute w⟩
theorem bpl (b : Byte) : Statement (.bpl b) :=
  ⟨_, rfl, rfl, rfl, rfl, rfl, rfl, fun _ => rfl⟩
theorem bmi (b : Byte) : Statement (.bmi b) :=
  ⟨_, rfl, rfl, rfl, rfl, rfl, rfl, fun _ => rfl⟩
theorem bvc (b : Byte) : Statement (.bvc b) :=
  ⟨_, rfl, rfl, rfl, rfl, rfl, rfl, fun _ => rfl⟩
theorem bvs (b : Byte) : Statement (.bvs b) :=
  ⟨_, rfl, rfl, rfl, rfl, rfl, rfl, fun _ => rfl⟩
theorem bcc (b : Byte) : Statement (.bcc b) :=
  ⟨_, rfl, rfl, rfl, rfl, rfl, rfl, fun _ => rfl⟩
theorem bcs (b : Byte) : Statement (.bcs b) :=
  ⟨_, rfl, rfl, rfl, rfl, rfl, rfl, fun _ => rfl⟩
theorem bne (b : Byte) : Statement (.bne b) :=
  ⟨_, rfl, rfl, rfl, rfl, rfl, rfl, fun _ => rfl⟩
theorem beq (b : Byte) : Statement (.beq b) :=
  ⟨_, rfl, rfl, rfl, rfl, rfl, rfl, fun _ => rfl⟩
theorem jmpAbsolute (w : Addr) : Statement (.jmpAbsolute w) :=
  ⟨_, rfl, rfl, rfl, rfl, rfl, rfl, word_of_bytes .jmpAbsolute w⟩
theorem jmpIndirect (w : Addr) : Statement (.jmpIndirect w) :=
  ⟨_, rfl, rfl, rfl, rfl, rfl, rfl, word_of_bytes .jmpIndirect w⟩
theorem jsr (w : Addr) : Statement (.jsr w) :=
  ⟨_, rfl, rfl, rfl, rfl, rfl, rfl, word_of_bytes .jsr w⟩
theorem rts : Statement .rts :=
  ⟨_, rfl, rfl, rfl, rfl, rfl, rfl, fun _ => rfl⟩
theorem pha : Statement .pha :=
  ⟨_, rfl, rfl, rfl, rfl, rfl, rfl, fun _ => rfl⟩
theorem pla : Statement .pla :=
  ⟨_, rfl, rfl, rfl, rfl, rfl, rfl, fun _ => rfl⟩
theorem php : Statement .php :=
  ⟨_, rfl, rfl, rfl, rfl, rfl, rfl, fun _ => rfl⟩
theorem plp : Statement .plp :=
  ⟨_, rfl, rfl, rfl, rfl, rfl, rfl, fun _ => rfl⟩
theorem clc : Statement .clc :=
  ⟨_, rfl, rfl, rfl, rfl, rfl, rfl, fun _ => rfl⟩
theorem sec : Statement .sec :=
  ⟨_, rfl, rfl, rfl, rfl, rfl, rfl, fun _ => rfl⟩
theorem cli : Statement .cli :=
  ⟨_, rfl, rfl, rfl, rfl, rfl, rfl, fun _ => rfl⟩
theorem sei : Statement .sei :=
  ⟨_, rfl, rfl, rfl, rfl, rfl, rfl, fun _ => rfl⟩
theorem cld : Statement .cld :=
  ⟨_, rfl, rfl, rfl, rfl, rfl, rfl, fun _ => rfl⟩
theorem sed : Statement .sed :=
  ⟨_, rfl, rfl, rfl, rfl, rfl, rfl, fun _ => rfl⟩
theorem clv : Statement .clv :=
  ⟨_, rfl, rfl, rfl, rfl, rfl, rfl, fun _ => rfl⟩
theorem brk : Statement .brk :=
  ⟨_, rfl, rfl, rfl, rfl, rfl, rfl, fun _ => rfl⟩
theorem rti : Statement .rti :=
  ⟨_, rfl, rfl, rfl, rfl, rfl, rfl, fun _ => rfl⟩
theorem nop : Statement .nop :=
  ⟨_, rfl, rfl, rfl, rfl, rfl, rfl, fun _ => rfl⟩

end Laws.TableEntry

/-- Every instruction's opcode selects its own entry. -/
theorem tableEntry (i : Instr) : Laws.TableEntry.Statement i := by
  cases i
  case ldaImmediate b => exact Laws.TableEntry.ldaImmediate b
  case ldaZeroPage b => exact Laws.TableEntry.ldaZeroPage b
  case ldaZeroPageX b => exact Laws.TableEntry.ldaZeroPageX b
  case ldaAbsolute w => exact Laws.TableEntry.ldaAbsolute w
  case ldaAbsoluteX w => exact Laws.TableEntry.ldaAbsoluteX w
  case ldaAbsoluteY w => exact Laws.TableEntry.ldaAbsoluteY w
  case ldaIndexedIndirect b => exact Laws.TableEntry.ldaIndexedIndirect b
  case ldaIndirectIndexed b => exact Laws.TableEntry.ldaIndirectIndexed b
  case ldxImmediate b => exact Laws.TableEntry.ldxImmediate b
  case ldxZeroPage b => exact Laws.TableEntry.ldxZeroPage b
  case ldxZeroPageY b => exact Laws.TableEntry.ldxZeroPageY b
  case ldxAbsolute w => exact Laws.TableEntry.ldxAbsolute w
  case ldxAbsoluteY w => exact Laws.TableEntry.ldxAbsoluteY w
  case ldyImmediate b => exact Laws.TableEntry.ldyImmediate b
  case ldyZeroPage b => exact Laws.TableEntry.ldyZeroPage b
  case ldyZeroPageX b => exact Laws.TableEntry.ldyZeroPageX b
  case ldyAbsolute w => exact Laws.TableEntry.ldyAbsolute w
  case ldyAbsoluteX w => exact Laws.TableEntry.ldyAbsoluteX w
  case staZeroPage b => exact Laws.TableEntry.staZeroPage b
  case staZeroPageX b => exact Laws.TableEntry.staZeroPageX b
  case staAbsolute w => exact Laws.TableEntry.staAbsolute w
  case staAbsoluteX w => exact Laws.TableEntry.staAbsoluteX w
  case staAbsoluteY w => exact Laws.TableEntry.staAbsoluteY w
  case staIndexedIndirect b => exact Laws.TableEntry.staIndexedIndirect b
  case staIndirectIndexed b => exact Laws.TableEntry.staIndirectIndexed b
  case stxZeroPage b => exact Laws.TableEntry.stxZeroPage b
  case stxZeroPageY b => exact Laws.TableEntry.stxZeroPageY b
  case stxAbsolute w => exact Laws.TableEntry.stxAbsolute w
  case styZeroPage b => exact Laws.TableEntry.styZeroPage b
  case styZeroPageX b => exact Laws.TableEntry.styZeroPageX b
  case styAbsolute w => exact Laws.TableEntry.styAbsolute w
  case tax => exact Laws.TableEntry.tax
  case tay => exact Laws.TableEntry.tay
  case tsx => exact Laws.TableEntry.tsx
  case txa => exact Laws.TableEntry.txa
  case txs => exact Laws.TableEntry.txs
  case tya => exact Laws.TableEntry.tya
  case adcImmediate b => exact Laws.TableEntry.adcImmediate b
  case adcZeroPage b => exact Laws.TableEntry.adcZeroPage b
  case adcZeroPageX b => exact Laws.TableEntry.adcZeroPageX b
  case adcAbsolute w => exact Laws.TableEntry.adcAbsolute w
  case adcAbsoluteX w => exact Laws.TableEntry.adcAbsoluteX w
  case adcAbsoluteY w => exact Laws.TableEntry.adcAbsoluteY w
  case adcIndexedIndirect b => exact Laws.TableEntry.adcIndexedIndirect b
  case adcIndirectIndexed b => exact Laws.TableEntry.adcIndirectIndexed b
  case sbcImmediate b => exact Laws.TableEntry.sbcImmediate b
  case sbcZeroPage b => exact Laws.TableEntry.sbcZeroPage b
  case sbcZeroPageX b => exact Laws.TableEntry.sbcZeroPageX b
  case sbcAbsolute w => exact Laws.TableEntry.sbcAbsolute w
  case sbcAbsoluteX w => exact Laws.TableEntry.sbcAbsoluteX w
  case sbcAbsoluteY w => exact Laws.TableEntry.sbcAbsoluteY w
  case sbcIndexedIndirect b => exact Laws.TableEntry.sbcIndexedIndirect b
  case sbcIndirectIndexed b => exact Laws.TableEntry.sbcIndirectIndexed b
  case andImmediate b => exact Laws.TableEntry.andImmediate b
  case andZeroPage b => exact Laws.TableEntry.andZeroPage b
  case andZeroPageX b => exact Laws.TableEntry.andZeroPageX b
  case andAbsolute w => exact Laws.TableEntry.andAbsolute w
  case andAbsoluteX w => exact Laws.TableEntry.andAbsoluteX w
  case andAbsoluteY w => exact Laws.TableEntry.andAbsoluteY w
  case andIndexedIndirect b => exact Laws.TableEntry.andIndexedIndirect b
  case andIndirectIndexed b => exact Laws.TableEntry.andIndirectIndexed b
  case oraImmediate b => exact Laws.TableEntry.oraImmediate b
  case oraZeroPage b => exact Laws.TableEntry.oraZeroPage b
  case oraZeroPageX b => exact Laws.TableEntry.oraZeroPageX b
  case oraAbsolute w => exact Laws.TableEntry.oraAbsolute w
  case oraAbsoluteX w => exact Laws.TableEntry.oraAbsoluteX w
  case oraAbsoluteY w => exact Laws.TableEntry.oraAbsoluteY w
  case oraIndexedIndirect b => exact Laws.TableEntry.oraIndexedIndirect b
  case oraIndirectIndexed b => exact Laws.TableEntry.oraIndirectIndexed b
  case eorImmediate b => exact Laws.TableEntry.eorImmediate b
  case eorZeroPage b => exact Laws.TableEntry.eorZeroPage b
  case eorZeroPageX b => exact Laws.TableEntry.eorZeroPageX b
  case eorAbsolute w => exact Laws.TableEntry.eorAbsolute w
  case eorAbsoluteX w => exact Laws.TableEntry.eorAbsoluteX w
  case eorAbsoluteY w => exact Laws.TableEntry.eorAbsoluteY w
  case eorIndexedIndirect b => exact Laws.TableEntry.eorIndexedIndirect b
  case eorIndirectIndexed b => exact Laws.TableEntry.eorIndirectIndexed b
  case bitZeroPage b => exact Laws.TableEntry.bitZeroPage b
  case bitAbsolute w => exact Laws.TableEntry.bitAbsolute w
  case aslAccumulator => exact Laws.TableEntry.aslAccumulator
  case aslZeroPage b => exact Laws.TableEntry.aslZeroPage b
  case aslZeroPageX b => exact Laws.TableEntry.aslZeroPageX b
  case aslAbsolute w => exact Laws.TableEntry.aslAbsolute w
  case aslAbsoluteX w => exact Laws.TableEntry.aslAbsoluteX w
  case lsrAccumulator => exact Laws.TableEntry.lsrAccumulator
  case lsrZeroPage b => exact Laws.TableEntry.lsrZeroPage b
  case lsrZeroPageX b => exact Laws.TableEntry.lsrZeroPageX b
  case lsrAbsolute w => exact Laws.TableEntry.lsrAbsolute w
  case lsrAbsoluteX w => exact Laws.TableEntry.lsrAbsoluteX w
  case rolAccumulator => exact Laws.TableEntry.rolAccumulator
  case rolZeroPage b => exact Laws.TableEntry.rolZeroPage b
  case rolZeroPageX b => exact Laws.TableEntry.rolZeroPageX b
  case rolAbsolute w => exact Laws.TableEntry.rolAbsolute w
  case rolAbsoluteX w => exact Laws.TableEntry.rolAbsoluteX w
  case rorAccumulator => exact Laws.TableEntry.rorAccumulator
  case rorZeroPage b => exact Laws.TableEntry.rorZeroPage b
  case rorZeroPageX b => exact Laws.TableEntry.rorZeroPageX b
  case rorAbsolute w => exact Laws.TableEntry.rorAbsolute w
  case rorAbsoluteX w => exact Laws.TableEntry.rorAbsoluteX w
  case incZeroPage b => exact Laws.TableEntry.incZeroPage b
  case incZeroPageX b => exact Laws.TableEntry.incZeroPageX b
  case incAbsolute w => exact Laws.TableEntry.incAbsolute w
  case incAbsoluteX w => exact Laws.TableEntry.incAbsoluteX w
  case decZeroPage b => exact Laws.TableEntry.decZeroPage b
  case decZeroPageX b => exact Laws.TableEntry.decZeroPageX b
  case decAbsolute w => exact Laws.TableEntry.decAbsolute w
  case decAbsoluteX w => exact Laws.TableEntry.decAbsoluteX w
  case inx => exact Laws.TableEntry.inx
  case iny => exact Laws.TableEntry.iny
  case dex => exact Laws.TableEntry.dex
  case dey => exact Laws.TableEntry.dey
  case cmpImmediate b => exact Laws.TableEntry.cmpImmediate b
  case cmpZeroPage b => exact Laws.TableEntry.cmpZeroPage b
  case cmpZeroPageX b => exact Laws.TableEntry.cmpZeroPageX b
  case cmpAbsolute w => exact Laws.TableEntry.cmpAbsolute w
  case cmpAbsoluteX w => exact Laws.TableEntry.cmpAbsoluteX w
  case cmpAbsoluteY w => exact Laws.TableEntry.cmpAbsoluteY w
  case cmpIndexedIndirect b => exact Laws.TableEntry.cmpIndexedIndirect b
  case cmpIndirectIndexed b => exact Laws.TableEntry.cmpIndirectIndexed b
  case cpxImmediate b => exact Laws.TableEntry.cpxImmediate b
  case cpxZeroPage b => exact Laws.TableEntry.cpxZeroPage b
  case cpxAbsolute w => exact Laws.TableEntry.cpxAbsolute w
  case cpyImmediate b => exact Laws.TableEntry.cpyImmediate b
  case cpyZeroPage b => exact Laws.TableEntry.cpyZeroPage b
  case cpyAbsolute w => exact Laws.TableEntry.cpyAbsolute w
  case bpl b => exact Laws.TableEntry.bpl b
  case bmi b => exact Laws.TableEntry.bmi b
  case bvc b => exact Laws.TableEntry.bvc b
  case bvs b => exact Laws.TableEntry.bvs b
  case bcc b => exact Laws.TableEntry.bcc b
  case bcs b => exact Laws.TableEntry.bcs b
  case bne b => exact Laws.TableEntry.bne b
  case beq b => exact Laws.TableEntry.beq b
  case jmpAbsolute w => exact Laws.TableEntry.jmpAbsolute w
  case jmpIndirect w => exact Laws.TableEntry.jmpIndirect w
  case jsr w => exact Laws.TableEntry.jsr w
  case rts => exact Laws.TableEntry.rts
  case pha => exact Laws.TableEntry.pha
  case pla => exact Laws.TableEntry.pla
  case php => exact Laws.TableEntry.php
  case plp => exact Laws.TableEntry.plp
  case clc => exact Laws.TableEntry.clc
  case sec => exact Laws.TableEntry.sec
  case cli => exact Laws.TableEntry.cli
  case sei => exact Laws.TableEntry.sei
  case cld => exact Laws.TableEntry.cld
  case sed => exact Laws.TableEntry.sed
  case clv => exact Laws.TableEntry.clv
  case brk => exact Laws.TableEntry.brk
  case rti => exact Laws.TableEntry.rti
  case nop => exact Laws.TableEntry.nop

end Sys2Proof
end

