-- ==== Sys2Proof/Laws/Ops.lean ====
section
/-! SUPPORT. For each shared operation, everything it can do: the registers it leaves, the RAM it
leaves, and that it keeps the bus lawful. -/

namespace Sys2Proof.Machine
variable (s : State)

/-! Effective addresses: only the bus (pointer reads) and page_crossed may change. -/

@[simp] theorem address_a (m : MemMode) : (address m s).2.a = s.a := by
  cases m <;> rfl
@[simp] theorem address_x (m : MemMode) : (address m s).2.x = s.x := by
  cases m <;> rfl
@[simp] theorem address_y (m : MemMode) : (address m s).2.y = s.y := by
  cases m <;> rfl
@[simp] theorem address_sp (m : MemMode) : (address m s).2.sp = s.sp := by
  cases m <;> rfl
@[simp] theorem address_p (m : MemMode) : (address m s).2.p = s.p := by
  cases m <;> rfl
@[simp] theorem address_pc (m : MemMode) : (address m s).2.pc = s.pc := by
  cases m <;> rfl
@[simp] theorem address_branchTaken (m : MemMode) : (address m s).2.branchTaken = s.branchTaken := by
  cases m <;> rfl
@[simp] theorem address_flag (m : MemMode) (f : Flag) :
    (address m s).2.flag f = s.flag f := by cases m <;> rfl
@[simp] theorem address_mem (m : MemMode) : (address m s).2.bus.mem = s.bus.mem := by
  cases m <;> simp [address, indexAddress, eaIndexedIndirect, eaIndirectIndexed,
    State.readZeroPagePointer]
@[simp] theorem address_ramSize (m : MemMode) :
    (address m s).2.bus.ramSize = s.bus.ramSize := by
  cases m <;> simp [address, indexAddress, eaIndexedIndirect, eaIndirectIndexed,
    State.readZeroPagePointer]
@[simp] theorem address_claimed (m : MemMode) (c : Addr) :
    (address m s).2.bus.claimed c = s.bus.claimed c := by
  cases m <;> simp [address, indexAddress, eaIndexedIndirect, eaIndirectIndexed,
    State.readZeroPagePointer]
@[simp] theorem address_ramByte (m : MemMode) (k : Nat) :
    (address m s).2.bus.ramByte k = s.bus.ramByte k := by simp [Bus.ramByte]
theorem address_wf (m : MemMode) (h : s.bus.wf = true) : (address m s).2.bus.wf = true := by
  cases m <;> first
    | exact h
    | simpa [address, eaIndexedIndirect, eaIndirectIndexed, indexAddress,
        State.readZeroPagePointer] using read_wf _ (read_wf _ h)

/-! Operands: only the bus and page_crossed may change. -/

@[simp] theorem operand_a (o : Operand) : (operand o s).2.a = s.a := by
  cases o <;> simp [operand]
@[simp] theorem operand_x (o : Operand) : (operand o s).2.x = s.x := by
  cases o <;> simp [operand]
@[simp] theorem operand_y (o : Operand) : (operand o s).2.y = s.y := by
  cases o <;> simp [operand]
@[simp] theorem operand_sp (o : Operand) : (operand o s).2.sp = s.sp := by
  cases o <;> simp [operand]
@[simp] theorem operand_p (o : Operand) : (operand o s).2.p = s.p := by
  cases o <;> simp [operand]
@[simp] theorem operand_pc (o : Operand) : (operand o s).2.pc = s.pc := by
  cases o <;> simp [operand]
@[simp] theorem operand_branchTaken (o : Operand) : (operand o s).2.branchTaken = s.branchTaken := by
  cases o <;> simp [operand]
@[simp] theorem operand_flag (o : Operand) (f : Flag) :
    (operand o s).2.flag f = s.flag f := by cases o <;> simp [operand]
@[simp] theorem operand_mem (o : Operand) : (operand o s).2.bus.mem = s.bus.mem := by
  cases o <;> simp [operand]
@[simp] theorem operand_ramSize (o : Operand) :
    (operand o s).2.bus.ramSize = s.bus.ramSize := by cases o <;> simp [operand]
@[simp] theorem operand_ramByte (o : Operand) (k : Nat) :
    (operand o s).2.bus.ramByte k = s.bus.ramByte k := by simp [Bus.ramByte]
theorem operand_wf (o : Operand) (h : s.bus.wf = true) : (operand o s).2.bus.wf = true := by
  cases o with
  | immediate b => exact h
  | memory m => exact read_wf _ (address_wf s m h)

/-! Stores: one write at the effective address. -/

@[simp] theorem storeTo_a (m : MemMode) (v : Byte) : (storeTo m v s).a = s.a := by
  simp [storeTo]
@[simp] theorem storeTo_x (m : MemMode) (v : Byte) : (storeTo m v s).x = s.x := by
  simp [storeTo]
@[simp] theorem storeTo_y (m : MemMode) (v : Byte) : (storeTo m v s).y = s.y := by
  simp [storeTo]
@[simp] theorem storeTo_sp (m : MemMode) (v : Byte) : (storeTo m v s).sp = s.sp := by
  simp [storeTo]
@[simp] theorem storeTo_p (m : MemMode) (v : Byte) : (storeTo m v s).p = s.p := by
  simp [storeTo]
@[simp] theorem storeTo_pc (m : MemMode) (v : Byte) : (storeTo m v s).pc = s.pc := by
  simp [storeTo]
@[simp] theorem storeTo_branchTaken (m : MemMode) (v : Byte) : (storeTo m v s).branchTaken = s.branchTaken := by
  simp [storeTo]
@[simp] theorem storeTo_flag (m : MemMode) (v : Byte) (f : Flag) :
    (storeTo m v s).flag f = s.flag f := by simp [storeTo]
theorem storeTo_ramByte_other (m : MemMode) (v : Byte) {k : Nat}
    (h : k ≠ (address m s).1.toNat) : (storeTo m v s).bus.ramByte k = s.bus.ramByte k := by
  simp [storeTo, write_ramByte_other _ _ _ h]
theorem storeTo_wf (m : MemMode) (v : Byte) (h : s.bus.wf = true) :
    (storeTo m v s).bus.wf = true := write_bus_wf _ _ (address_wf s m h)

/-! Read-modify-writes: one read and one write at the effective address. -/

@[simp] theorem modifyAt_a (m : MemMode) (g : Byte → Byte × Bool) :
    (modifyAt m g s).2.a = s.a := by simp [modifyAt]
@[simp] theorem modifyAt_x (m : MemMode) (g : Byte → Byte × Bool) :
    (modifyAt m g s).2.x = s.x := by simp [modifyAt]
@[simp] theorem modifyAt_y (m : MemMode) (g : Byte → Byte × Bool) :
    (modifyAt m g s).2.y = s.y := by simp [modifyAt]
@[simp] theorem modifyAt_sp (m : MemMode) (g : Byte → Byte × Bool) :
    (modifyAt m g s).2.sp = s.sp := by simp [modifyAt]
@[simp] theorem modifyAt_p (m : MemMode) (g : Byte → Byte × Bool) :
    (modifyAt m g s).2.p = s.p := by simp [modifyAt]
@[simp] theorem modifyAt_pc (m : MemMode) (g : Byte → Byte × Bool) :
    (modifyAt m g s).2.pc = s.pc := by simp [modifyAt]
@[simp] theorem modifyAt_branchTaken (m : MemMode) (g : Byte → Byte × Bool) :
    (modifyAt m g s).2.branchTaken = s.branchTaken := by simp [modifyAt]
@[simp] theorem modifyAt_flag (m : MemMode) (g : Byte → Byte × Bool) (f : Flag) :
    (modifyAt m g s).2.flag f = s.flag f := by simp [modifyAt]
theorem modifyAt_ramByte_other (m : MemMode) (g : Byte → Byte × Bool) {k : Nat}
    (h : k ≠ (address m s).1.toNat) :
    (modifyAt m g s).2.bus.ramByte k = s.bus.ramByte k := by
  simp [modifyAt, write_ramByte_other _ _ _ h]
theorem modifyAt_wf (m : MemMode) (g : Byte → Byte × Bool) (h : s.bus.wf = true) :
    (modifyAt m g s).2.bus.wf = true := write_bus_wf _ _ (read_wf _ (address_wf s m h))

/-! Fetches, word reads and the stack keep the bus lawful; only pushes write, and only in page 1. -/

theorem fetchByte_wf (h : s.bus.wf = true) : s.fetchByte.2.bus.wf = true := read_wf _ h
theorem fetchWord_wf (h : s.bus.wf = true) : s.fetchWord.2.bus.wf = true :=
  read_wf _ (read_wf _ h)
theorem readPair_wf (l u : Addr) (h : s.bus.wf = true) : (s.readPair l u).2.bus.wf = true :=
  read_wf _ (read_wf _ h)
theorem push_wf (v : Byte) (h : s.bus.wf = true) : (s.push v).bus.wf = true :=
  write_bus_wf _ _ h
theorem pull_wf (h : s.bus.wf = true) : s.pull.2.bus.wf = true := read_wf _ h
theorem pushWord_wf (w : Addr) (h : s.bus.wf = true) : (s.pushWord w).bus.wf = true :=
  push_wf _ _ (push_wf _ _ h)
theorem pullWord_wf (h : s.bus.wf = true) : s.pullWord.2.bus.wf = true :=
  pull_wf _ (pull_wf _ h)
@[simp] theorem readPair_flag (l u : Addr) (f : Flag) :
    (s.readPair l u).2.flag f = s.flag f := rfl
theorem takeTrap_wf (w : Addr) (h : s.bus.wf = true) : (s.takeTrap w).bus.wf = true :=
  readPair_wf _ _ _ (push_wf _ _ (pushWord_wf _ _ h))
theorem returnFromTrap_wf (h : s.bus.wf = true) : s.returnFromTrap.bus.wf = true :=
  pullWord_wf s.pullStatus (pull_wf _ h)
theorem resetCpu_wf (h : s.bus.wf = true) : s.resetCpu.bus.wf = true :=
  read_wf _ (read_wf _ h)

@[simp] theorem pull_mem : s.pull.2.bus.mem = s.bus.mem := by simp
@[simp] theorem pullWord_mem : s.pullWord.2.bus.mem = s.bus.mem := by
  simp [State.pullWord]
@[simp] theorem fetchByte_mem : s.fetchByte.2.bus.mem = s.bus.mem := by simp
@[simp] theorem fetchWord_mem : s.fetchWord.2.bus.mem = s.bus.mem := by
  simp [State.fetchWord]
theorem push_ramByte_other (v : Byte) {k : Nat} (h : k ≠ (stackAddr s.sp).toNat) :
    (s.push v).bus.ramByte k = s.bus.ramByte k := write_ramByte_other _ _ _ h

/-- The trap's registers (R276, R277): SP three lower, the vector in PC, nothing else of the register
file. -/
theorem takeTrap_registers (w : Addr) :
    (s.takeTrap w).a = s.a ∧ (s.takeTrap w).x = s.x ∧ (s.takeTrap w).y = s.y ∧
      (s.takeTrap w).sp = s.sp - 1#8 - 1#8 - 1#8 ∧
      (∀ f, (s.takeTrap w).flag f =
        (decide (f = .unused) || if f = .interruptDisable then true else s.flag f)) := by
  refine ⟨?_, ?_, ?_, ?_, fun f => ?_⟩ <;> simp [State.takeTrap, State.readWord]

/-- What a branch can do (R215): nothing, or PC and the two transient booleans. -/
theorem branchIf_cases (c : Bool) (off : Byte) :
    (c = false ∧ branchIf c off s = s) ∨
    (c = true ∧ branchIf c off s =
      ((s.setBranchTaken true).setPageCrossed (pageDiffers (s.pc + sext16 off) s.pc)).setPc
        (s.pc + sext16 off)) := by
  cases c
  · exact .inl ⟨rfl, rfl⟩
  · exact .inr ⟨rfl, rfl⟩

/-- What an addition or subtraction writes (R170, R171): A and the flags C, V, Z, N. -/
theorem setAlu_flag (r : AluResult) (f : Flag) :
    (s.setAlu r).flag f = (decide (f = .unused) ||
      if f = .negative then r.value.msb else if f = .zero then r.value == 0x00#8
      else if f = .overflow then r.overflow else if f = .carry then r.carry else s.flag f) := by
  cases f <;> simp [State.setAlu]

/-- What a compare writes: the flags C, Z, N (R206). -/
theorem compare_flag (u v : Byte) (f : Flag) :
    (s.compare u v).flag f = (decide (f = .unused) ||
      if f = .negative then (u - v).msb else if f = .zero then u == v
      else if f = .carry then decide (v.toNat ≤ u.toNat) else s.flag f) := by
  cases f <;> simp [State.compare]

end Sys2Proof.Machine
end

