-- ==== Sys2Proof/Laws/Reset.lean ====
section
/-! SUPPORT. The reset operation's spec lemma, and that `State.reset` is what constructing the CPU on a
bare default bus gives (R36, R310, R311). -/

namespace Sys2Proof.Machine

/-- Every register after reset (R310), and the bus after exactly two reads, low byte first. -/
theorem resetCpu_fields (s : State) :
    s.resetCpu.a = 0x00#8 ∧ s.resetCpu.x = 0x00#8 ∧ s.resetCpu.y = 0x00#8 ∧
      s.resetCpu.sp = 0xFD#8 ∧ s.resetCpu.p = 0x24#8 ∧
      s.resetCpu.bus = ((s.bus.read 0xFFFC#16).2.read 0xFFFD#16).2 ∧
      s.resetCpu.pc = mkWord ((s.bus.read 0xFFFC#16).2.read 0xFFFD#16).1
        (s.bus.read 0xFFFC#16).1 := ⟨rfl, rfl, rfl, rfl, rfl, rfl, rfl⟩

/-- `State.reset` is a fixed point of the reset operation. -/
theorem reset_resetCpu : State.reset.resetCpu = State.reset := by decide

/-- `State.reset` is the CPU constructed on a bare bus of the default size (R311). -/
theorem reset_eq_cpuNew :
    cpuNew (some (Bus.bare Config.defaultRamSize [])) = .ok State.reset :=
  congrArg Except.ok reset_resetCpu

end Sys2Proof.Machine
end

