-- ==== Sys2Proof/Laws/Step.lean ====
section
/-! SUPPORT. What a step can do: an instruction always answers a next state; a step is the instruction
its fetch decodes, or the IllegalOpcode failure (R120, R270). -/

namespace Sys2Proof.Machine

/-- No legal instruction can fail, in any state (R37, R56, R274). -/
theorem exec_answers_next (i : Instr) (s : State) : ∃ t, exec i s = .next t := by
  cases i <;> exact ⟨_, rfl⟩

/-- A step of an illegal opcode byte (R270). -/
theorem hostStep_illegal {s : State} (h : dispatch (s.bus.read s.pc).1 = none) :
    hostStep s = .failed (.illegalOpcode (s.bus.read s.pc).1) s.clearTransients.fetchByte.2 := by
  have h' : dispatch s.clearTransients.fetchByte.1 = none := h
  unfold hostStep fetch
  simp only [h']
  rfl

/-- A step of a legal opcode byte: the operand fetches, then the instruction, then its cycle count
(R120). -/
theorem hostStep_legal {s : State} {e : DispatchEntry}
    (h : dispatch (s.bus.read s.pc).1 = some e) :
    ∃ t, exec (fetchOperands e.shape s.clearTransients.fetchByte.2).1
        (fetchOperands e.shape s.clearTransients.fetchByte.2).2 = .next t ∧
      hostStep s = .done (stepCycles e t) t := by
  obtain ⟨t, ht⟩ := exec_answers_next
    (fetchOperands e.shape s.clearTransients.fetchByte.2).1
    (fetchOperands e.shape s.clearTransients.fetchByte.2).2
  have h' : dispatch s.clearTransients.fetchByte.1 = some e := h
  refine ⟨t, ht, ?_⟩
  unfold hostStep fetch
  simp only [h', ht]

/-- Everything a step can answer. -/
theorem step_cases (s : State) :
    (∃ op, dispatch op = none ∧ op = (s.bus.read s.pc).1 ∧ step s = .fault (.illegalOpcode op)) ∨
    (∃ e t, dispatch (s.bus.read s.pc).1 = some e ∧
      exec (fetchOperands e.shape s.clearTransients.fetchByte.2).1
        (fetchOperands e.shape s.clearTransients.fetchByte.2).2 = .next t ∧ step s = .next t) := by
  cases h : dispatch (s.bus.read s.pc).1 with
  | none =>
    refine .inl ⟨_, h, rfl, ?_⟩
    rw [step, hostStep_illegal h]; rfl
  | some e =>
    obtain ⟨t, ht, hs⟩ := hostStep_legal h
    refine .inr ⟨e, t, rfl, ht, ?_⟩
    rw [step, hs]; rfl

/-- The operand fetches change PC and the bus only. -/
theorem fetchOperands_frame (sh : OperandShape) (s : State) :
    (fetchOperands sh s).2.p = s.p ∧ (fetchOperands sh s).2.a = s.a ∧
      (fetchOperands sh s).2.x = s.x ∧ (fetchOperands sh s).2.y = s.y ∧
      (fetchOperands sh s).2.sp = s.sp ∧ (fetchOperands sh s).2.bus.mem = s.bus.mem := by
  cases sh <;> simp [fetchOperands]

/-- The operand fetches keep the bus lawful. -/
theorem fetchOperands_wf (sh : OperandShape) (s : State) (h : s.bus.wf = true) :
    (fetchOperands sh s).2.bus.wf = true := by
  cases sh
  · exact h
  · exact fetchByte_wf _ h
  · exact fetchWord_wf _ h

end Sys2Proof.Machine
end

