-- ==== Sys2Proof/Laws/HostOps.lean ====
section
/-! SUPPORT. The bound on the steps of a run, which is the model's own (assumption log 20), does not
matter to a run that ends within it. -/

namespace Sys2Proof.Machine

/-- Whether a report is the model's own "bound reached". -/
def RunReport.ended {σ : Type} : RunReport σ → Bool
  | .stopped _ _ _ => true
  | .failed _ _ _ => true
  | .refused _ => true
  | .unfinished _ _ _ => false

/-- A run that ends within a bound gives the same report within every larger one. -/
theorem runWhile_bound {σ : Type} {n m : Nat} {keepGoing : RunPredicate σ} {total : BitVec 64}
    {host : σ} {s : State} (hm : n ≤ m) (h : (runWhile n keepGoing total host s).ended = true) :
    runWhile m keepGoing total host s = runWhile n keepGoing total host s := by
  induction n generalizing m total host s with
  | zero =>
    cases m <;> unfold runWhile at h ⊢ <;> split at h <;> simp_all [RunReport.ended]
  | succ n ih =>
    obtain ⟨m, rfl⟩ : ∃ k, m = k + 1 := ⟨m - 1, by omega⟩
    unfold runWhile at h ⊢
    split
    · rfl
    · split <;> simp_all

end Sys2Proof.Machine
end

