-- ==== Sys2Proof/Laws/Syntax.lean ====
section
/-! SUPPORT. No constructor of `Instr` spells a forbidden pair, and no two modes' user lists leave a
mnemonic without a mode (R94, R146). -/

namespace Sys2Proof

/-- `InvalidAddressingMode` is unreachable: every instruction pairs its mnemonic with a mode the
dispatch table allows (R146). -/
theorem instr_wellFormed (i : Instr) : i.wellFormed = true := by cases i <;> rfl

end Sys2Proof
end

