-- ==== Sys2Proof/Tests/Slice0.lean ====
section
/-! SUPPORT. Tests. The expected results come from the spec: the encodings of R150 to R257 and the
vectors of spec/95_test_vectors.md, whose row each test names. Then, for every obligation with
hypotheses, concrete inputs that meet them. -/

namespace Sys2Proof.Tests
open Sys2Proof.Machine Sys2Proof.Says

/-! Helpers. -/

/-- A 65536-byte RAM with bytes from `org` on and further bytes at given addresses, PC at `org`, and
otherwise reset. -/
def boot (org : Addr) (bytes : List Byte) (more : List (Addr × Byte)) : State :=
  { State.reset with
    pc := org
    bus := Bus.bare 65536 ((Memory.place [] more).writeAll org.toNat bytes) }

/-- The machine with one console bridge at the default addresses, its FIFO given. -/
def withBridge (s : State) (fifo : List Byte) : State :=
  s.setBus { s.bus with devices := [.console (Bridge.default.enqueue fifo)] }

/-- One step succeeds with the cycle count, the register snapshot and the RAM bytes given. -/
def runs (s : State) (cycles : Nat) (t : Snapshot) (ram : List (Nat × Byte)) : Bool :=
  match hostStep s with
  | .done c u => c.toNat == cycles && u.snapshot == t &&
      ram.all (fun q => u.bus.ramByte q.1 == q.2)
  | .failed _ _ => false
  | .refused _ => false

/-- One step fails with IllegalOpcode of the byte, leaving the register snapshot given. -/
def failsAt (s : State) (op : Byte) (t : Snapshot) : Bool :=
  match hostStep s with
  | .done _ _ => false
  | .failed r u => decide (r = .illegalOpcode op) && u.snapshot == t
  | .refused _ => false

/-- Every row's bytes decode to its instruction with nothing left over. -/
def allDecode (rows : List (List Byte × Instr)) : Bool :=
  rows.all (fun r =>
    match decode r.1 with
    | .ok (i, rest) => decide (i = r.2) && rest.isEmpty
    | .error _ => false)

/-! Well-formedness: a forbidden pair of each addressing mode is refused, R95's 151 pairs are allowed. -/

theorem test_forbidden_pairs_refused :
    ([(.lda, .implicit), (.inc, .accumulator), (.sta, .immediate), (.jmp, .zeroPage),
      (.stx, .zeroPageX), (.lda, .zeroPageY), (.jmp, .relative), (.tax, .absolute),
      (.ldx, .absoluteX), (.asl, .absoluteY), (.lda, .indirect), (.bit, .indexedIndirect),
      (.ldx, .indirectIndexed)] : List (Mnemonic × AddressingMode)).all
      (fun q => !pairAllowed q.1 q.2) = true := by decide

theorem test_allowed_pairs_count :
    (([.implicit, .accumulator, .immediate, .zeroPage, .zeroPageX, .zeroPageY, .relative, .absolute,
      .absoluteX, .absoluteY, .indirect, .indexedIndirect, .indirectIndexed] :
      List AddressingMode).map (fun md => md.users.length)).sum = 151 := by decide

theorem test_encoded_instruction_wellFormed : (Instr.ldaImmediate 0x41#8).wellFormed = true := by
  decide

/-! Decoding: every constructor from its encoding, the opcode bit by bit from the "Encodings" lines of
R150 to R257, operand bytes low byte first (R92). -/

theorem test_decode_loads_stores_transfers_1 : allDecode
    [([0b10101001#8, 0x2A#8], .ldaImmediate 0x2A#8),
     ([0b10100101#8, 0x4F#8], .ldaZeroPage 0x4F#8),
     ([0b10110101#8, 0x74#8], .ldaZeroPageX 0x74#8),
     ([0b10101101#8, 0x99#8, 0xEC#8], .ldaAbsolute 0xEC99#16),
     ([0b10111101#8, 0xBE#8, 0x47#8], .ldaAbsoluteX 0x47BE#16),
     ([0b10111001#8, 0xE3#8, 0xA2#8], .ldaAbsoluteY 0xA2E3#16),
     ([0b10100001#8, 0x08#8], .ldaIndexedIndirect 0x08#8),
     ([0b10110001#8, 0x2D#8], .ldaIndirectIndexed 0x2D#8),
     ([0b10100010#8, 0x52#8], .ldxImmediate 0x52#8),
     ([0b10100110#8, 0x77#8], .ldxZeroPage 0x77#8),
     ([0b10110110#8, 0x9C#8], .ldxZeroPageY 0x9C#8),
     ([0b10101110#8, 0xC1#8, 0xC4#8], .ldxAbsolute 0xC4C1#16),
     ([0b10111110#8, 0xE6#8, 0x1F#8], .ldxAbsoluteY 0x1FE6#16),
     ([0b10100000#8, 0x0B#8], .ldyImmediate 0x0B#8),
     ([0b10100100#8, 0x30#8], .ldyZeroPage 0x30#8),
     ([0b10110100#8, 0x55#8], .ldyZeroPageX 0x55#8),
     ([0b10101100#8, 0x7A#8, 0x8B#8], .ldyAbsolute 0x8B7A#16),
     ([0b10111100#8, 0x9F#8, 0xE6#8], .ldyAbsoluteX 0xE69F#16),
     ([0b10000101#8, 0xC4#8], .staZeroPage 0xC4#8),
     ([0b10010101#8, 0xE9#8], .staZeroPageX 0xE9#8),
     ([0b10001101#8, 0x0E#8, 0xF7#8], .staAbsolute 0xF70E#16),
     ([0b10011101#8, 0x33#8, 0x52#8], .staAbsoluteX 0x5233#16)] = true := by decide

theorem test_decode_loads_stores_transfers_2 : allDecode
    [([0b10011001#8, 0x58#8, 0xAD#8], .staAbsoluteY 0xAD58#16),
     ([0b10000001#8, 0x7D#8], .staIndexedIndirect 0x7D#8),
     ([0b10010001#8, 0xA2#8], .staIndirectIndexed 0xA2#8),
     ([0b10000110#8, 0xC7#8], .stxZeroPage 0xC7#8),
     ([0b10010110#8, 0xEC#8], .stxZeroPageY 0xEC#8),
     ([0b10001110#8, 0x11#8, 0x74#8], .stxAbsolute 0x7411#16),
     ([0b10000100#8, 0x36#8], .styZeroPage 0x36#8),
     ([0b10010100#8, 0x5B#8], .styZeroPageX 0x5B#8),
     ([0b10001100#8, 0x80#8, 0x85#8], .styAbsolute 0x8580#16),
     ([0b10101010#8], .tax),
     ([0b10101000#8], .tay),
     ([0b10111010#8], .tsx),
     ([0b10001010#8], .txa),
     ([0b10011010#8], .txs),
     ([0b10011000#8], .tya)] = true := by decide

theorem test_decode_arithmetic : allDecode
    [([0b01101001#8, 0x83#8], .adcImmediate 0x83#8),
     ([0b01100101#8, 0xA8#8], .adcZeroPage 0xA8#8),
     ([0b01110101#8, 0xCD#8], .adcZeroPageX 0xCD#8),
     ([0b01101101#8, 0xF2#8, 0x13#8], .adcAbsolute 0x13F2#16),
     ([0b01111101#8, 0x17#8, 0x6E#8], .adcAbsoluteX 0x6E17#16),
     ([0b01111001#8, 0x3C#8, 0xC9#8], .adcAbsoluteY 0xC93C#16),
     ([0b01100001#8, 0x61#8], .adcIndexedIndirect 0x61#8),
     ([0b01110001#8, 0x86#8], .adcIndirectIndexed 0x86#8),
     ([0b11101001#8, 0xAB#8], .sbcImmediate 0xAB#8),
     ([0b11100101#8, 0xD0#8], .sbcZeroPage 0xD0#8),
     ([0b11110101#8, 0xF5#8], .sbcZeroPageX 0xF5#8),
     ([0b11101101#8, 0x1A#8, 0xEB#8], .sbcAbsolute 0xEB1A#16),
     ([0b11111101#8, 0x3F#8, 0x46#8], .sbcAbsoluteX 0x463F#16),
     ([0b11111001#8, 0x64#8, 0xA1#8], .sbcAbsoluteY 0xA164#16),
     ([0b11100001#8, 0x89#8], .sbcIndexedIndirect 0x89#8),
     ([0b11110001#8, 0xAE#8], .sbcIndirectIndexed 0xAE#8)] = true := by decide

theorem test_decode_logic_1 : allDecode
    [([0b00101001#8, 0xD3#8], .andImmediate 0xD3#8),
     ([0b00100101#8, 0xF8#8], .andZeroPage 0xF8#8),
     ([0b00110101#8, 0x1D#8], .andZeroPageX 0x1D#8),
     ([0b00101101#8, 0x42#8, 0xC3#8], .andAbsolute 0xC342#16),
     ([0b00111101#8, 0x67#8, 0x1E#8], .andAbsoluteX 0x1E67#16),
     ([0b00111001#8, 0x8C#8, 0x79#8], .andAbsoluteY 0x798C#16),
     ([0b00100001#8, 0xB1#8], .andIndexedIndirect 0xB1#8),
     ([0b00110001#8, 0xD6#8], .andIndirectIndexed 0xD6#8),
     ([0b00001001#8, 0xFB#8], .oraImmediate 0xFB#8),
     ([0b00000101#8, 0x20#8], .oraZeroPage 0x20#8),
     ([0b00010101#8, 0x45#8], .oraZeroPageX 0x45#8),
     ([0b00001101#8, 0x6A#8, 0x9B#8], .oraAbsolute 0x9B6A#16),
     ([0b00011101#8, 0x8F#8, 0xF6#8], .oraAbsoluteX 0xF68F#16),
     ([0b00011001#8, 0xB4#8, 0x51#8], .oraAbsoluteY 0x51B4#16),
     ([0b00000001#8, 0xD9#8], .oraIndexedIndirect 0xD9#8),
     ([0b00010001#8, 0xFE#8], .oraIndirectIndexed 0xFE#8),
     ([0b01001001#8, 0x23#8], .eorImmediate 0x23#8),
     ([0b01000101#8, 0x48#8], .eorZeroPage 0x48#8),
     ([0b01010101#8, 0x6D#8], .eorZeroPageX 0x6D#8),
     ([0b01001101#8, 0x92#8, 0x73#8], .eorAbsolute 0x7392#16),
     ([0b01011101#8, 0xB7#8, 0xCE#8], .eorAbsoluteX 0xCEB7#16),
     ([0b01011001#8, 0xDC#8, 0x29#8], .eorAbsoluteY 0x29DC#16)] = true := by decide

theorem test_decode_logic_2 : allDecode
    [([0b01000001#8, 0x01#8], .eorIndexedIndirect 0x01#8),
     ([0b01010001#8, 0x26#8], .eorIndirectIndexed 0x26#8),
     ([0b00100100#8, 0x4B#8], .bitZeroPage 0x4B#8),
     ([0b00101100#8, 0x70#8, 0x95#8], .bitAbsolute 0x9570#16)] = true := by decide

theorem test_decode_shifts : allDecode
    [([0b00001010#8], .aslAccumulator),
     ([0b00000110#8, 0xBA#8], .aslZeroPage 0xBA#8),
     ([0b00010110#8, 0xDF#8], .aslZeroPageX 0xDF#8),
     ([0b00001110#8, 0x04#8, 0x01#8], .aslAbsolute 0x0104#16),
     ([0b00011110#8, 0x29#8, 0x5C#8], .aslAbsoluteX 0x5C29#16),
     ([0b01001010#8], .lsrAccumulator),
     ([0b01000110#8, 0x73#8], .lsrZeroPage 0x73#8),
     ([0b01010110#8, 0x98#8], .lsrZeroPageX 0x98#8),
     ([0b01001110#8, 0xBD#8, 0xC8#8], .lsrAbsolute 0xC8BD#16),
     ([0b01011110#8, 0xE2#8, 0x23#8], .lsrAbsoluteX 0x23E2#16),
     ([0b00101010#8], .rolAccumulator),
     ([0b00100110#8, 0x2C#8], .rolZeroPage 0x2C#8),
     ([0b00110110#8, 0x51#8], .rolZeroPageX 0x51#8),
     ([0b00101110#8, 0x76#8, 0x8F#8], .rolAbsolute 0x8F76#16),
     ([0b00111110#8, 0x9B#8, 0xEA#8], .rolAbsoluteX 0xEA9B#16),
     ([0b01101010#8], .rorAccumulator),
     ([0b01100110#8, 0xE5#8], .rorZeroPage 0xE5#8),
     ([0b01110110#8, 0x0A#8], .rorZeroPageX 0x0A#8),
     ([0b01101110#8, 0x2F#8, 0x56#8], .rorAbsolute 0x562F#16),
     ([0b01111110#8, 0x54#8, 0xB1#8], .rorAbsoluteX 0xB154#16)] = true := by decide

theorem test_decode_increments_compares_1 : allDecode
    [([0b11100110#8, 0x79#8], .incZeroPage 0x79#8),
     ([0b11110110#8, 0x9E#8], .incZeroPageX 0x9E#8),
     ([0b11101110#8, 0xC3#8, 0xC2#8], .incAbsolute 0xC2C3#16),
     ([0b11111110#8, 0xE8#8, 0x1D#8], .incAbsoluteX 0x1DE8#16),
     ([0b11000110#8, 0x0D#8], .decZeroPage 0x0D#8),
     ([0b11010110#8, 0x32#8], .decZeroPageX 0x32#8),
     ([0b11001110#8, 0x57#8, 0x2E#8], .decAbsolute 0x2E57#16),
     ([0b11011110#8, 0x7C#8, 0x89#8], .decAbsoluteX 0x897C#16),
     ([0b11101000#8], .inx),
     ([0b11001000#8], .iny),
     ([0b11001010#8], .dex),
     ([0b10001000#8], .dey),
     ([0b11001001#8, 0x35#8], .cmpImmediate 0x35#8),
     ([0b11000101#8, 0x5A#8], .cmpZeroPage 0x5A#8),
     ([0b11010101#8, 0x7F#8], .cmpZeroPageX 0x7F#8),
     ([0b11001101#8, 0xA4#8, 0x61#8], .cmpAbsolute 0x61A4#16),
     ([0b11011101#8, 0xC9#8, 0xBC#8], .cmpAbsoluteX 0xBCC9#16),
     ([0b11011001#8, 0xEE#8, 0x17#8], .cmpAbsoluteY 0x17EE#16),
     ([0b11000001#8, 0x13#8], .cmpIndexedIndirect 0x13#8),
     ([0b11010001#8, 0x38#8], .cmpIndirectIndexed 0x38#8),
     ([0b11100000#8, 0x5D#8], .cpxImmediate 0x5D#8),
     ([0b11100100#8, 0x82#8], .cpxZeroPage 0x82#8)] = true := by decide

theorem test_decode_increments_compares_2 : allDecode
    [([0b11101100#8, 0xA7#8, 0xDE#8], .cpxAbsolute 0xDEA7#16),
     ([0b11000000#8, 0xCC#8], .cpyImmediate 0xCC#8),
     ([0b11000100#8, 0xF1#8], .cpyZeroPage 0xF1#8),
     ([0b11001100#8, 0x16#8, 0xEF#8], .cpyAbsolute 0xEF16#16)] = true := by decide

theorem test_decode_control : allDecode
    [([0b00010000#8, 0x3B#8], .bpl 0x3B#8),
     ([0b00110000#8, 0x60#8], .bmi 0x60#8),
     ([0b01010000#8, 0x85#8], .bvc 0x85#8),
     ([0b01110000#8, 0xAA#8], .bvs 0xAA#8),
     ([0b10010000#8, 0xCF#8], .bcc 0xCF#8),
     ([0b10110000#8, 0xF4#8], .bcs 0xF4#8),
     ([0b11010000#8, 0x19#8], .bne 0x19#8),
     ([0b11110000#8, 0x3E#8], .beq 0x3E#8),
     ([0b01001100#8, 0x63#8, 0x22#8], .jmpAbsolute 0x2263#16),
     ([0b01101100#8, 0x88#8, 0x7D#8], .jmpIndirect 0x7D88#16),
     ([0b00100000#8, 0xAD#8, 0xD8#8], .jsr 0xD8AD#16),
     ([0b01100000#8], .rts)] = true := by decide

theorem test_decode_stack_status : allDecode
    [([0b01001000#8], .pha),
     ([0b01101000#8], .pla),
     ([0b00001000#8], .php),
     ([0b00101000#8], .plp),
     ([0b00011000#8], .clc),
     ([0b00111000#8], .sec),
     ([0b01011000#8], .cli),
     ([0b01111000#8], .sei),
     ([0b11011000#8], .cld),
     ([0b11111000#8], .sed),
     ([0b10111000#8], .clv)] = true := by decide

theorem test_decode_trap_nop : allDecode
    [([0b00000000#8], .brk),
     ([0b01000000#8], .rti),
     ([0b11101010#8], .nop)] = true := by decide

theorem test_decode_reads_table_words :
    decodeTableWord 8 0b10101001 = some (.ldaImmediate 0x00#8) ∧
    decodeTableWord 16 0b0100000110101001 = some (.ldaImmediate 0x41#8) ∧
    decodeTableWord 24 0xF0018D = some (.staAbsolute 0xF001#16) ∧
    decodeTableWord 8 0x02 = none := by decide

/-- R96, and operand bytes that are missing (the model's own error, assumption log 22). -/
theorem test_decode_rejects_by_name :
    (match decode [0x02#8] with
      | .error e => decide (e = .illegalOpcode 0x02#8) | .ok _ => false) = true ∧
    (match decode [0x8D#8, 0x00#8] with
      | .error e => decide (e = .operandMissing 0x8D#8) | .ok _ => false) = true ∧
    (match decode [] with
      | .error e => decide (e = .noOpcode) | .ok _ => false) = true := by decide

/-- Scenario S2's first instruction, `A9 41`, as the first instruction after reset. -/
theorem test_step_runs_fetch_word :
    (match step (State.reset.withFetchWord 16 0x41A9) with
      | .next t => decide (t.a = 0x41#8 ∧ t.pc = 0x0002#16)
      | .fault _ => false | .refused _ => false) = true := by decide

/-- The word replaces whatever a device held at PC. -/
theorem test_fetch_word_over_device :
    (match step (({ withBridge State.reset [] with pc := 0xF003#16 }).withFetchWord 24 0x1234AD) with
      | .next t => decide (t.pc = 0xF006#16)
      | .fault _ => false | .refused _ => false) = true := by decide

/-! One step per vector of spec/95_test_vectors.md part 2. -/

theorem test_LS5_ldaAbsoluteX : runs { boot 0x8000#16 [0xBD#8, 0xF0#8, 0x12#8] [(0x1310#16, 0x01#8)] with x := 0x20#8 } 5
    ⟨0x01#8, 0x20#8, 0x00#8, 0x8003#16, 0xFD#8, 0x24#8⟩
    [] = true := by decide

theorem test_LS8_ldaIndexedIndirect : runs (boot 0x8000#16 [0xA1#8, 0xFF#8] [(0x0000#16, 0x12#8), (0x00FF#16, 0x34#8), (0x0100#16, 0x77#8), (0x1234#16, 0x5A#8), (0x7734#16, 0xEE#8)]) 6
    ⟨0x5A#8, 0x00#8, 0x00#8, 0x8002#16, 0xFD#8, 0x24#8⟩
    [] = true := by decide

theorem test_LS11_ldxZeroPageY : runs { boot 0x8000#16 [0xB6#8, 0x10#8] [(0x000F#16, 0x33#8), (0x010F#16, 0x44#8)] with y := 0xFF#8 } 4
    ⟨0x00#8, 0x33#8, 0xFF#8, 0x8002#16, 0xFD#8, 0x24#8⟩
    [] = true := by decide

theorem test_LS14_ldxAbsoluteY : runs { boot 0x8000#16 [0xBE#8, 0xFF#8, 0x12#8] [(0x1300#16, 0x80#8)] with y := 0x01#8 } 5
    ⟨0x00#8, 0x80#8, 0x01#8, 0x8003#16, 0xFD#8, 0xA4#8⟩
    [] = true := by decide

theorem test_LS15_ldyAbsoluteX : runs { boot 0x8000#16 [0xBC#8, 0x00#8, 0x13#8] [(0x13FF#16, 0x07#8)] with x := 0xFF#8 } 4
    ⟨0x00#8, 0xFF#8, 0x07#8, 0x8003#16, 0xFD#8, 0x24#8⟩
    [] = true := by decide

theorem test_LS12_ldyImmediate : runs (boot 0x8000#16 [0xA0#8, 0xFF#8] []) 2
    ⟨0x00#8, 0x00#8, 0xFF#8, 0x8002#16, 0xFD#8, 0xA4#8⟩
    [] = true := by decide

theorem test_LS17_staAbsoluteX : runs { boot 0x8000#16 [0x9D#8, 0xF0#8, 0x12#8] [] with a := 0x42#8, x := 0x20#8 } 5
    ⟨0x42#8, 0x20#8, 0x00#8, 0x8003#16, 0xFD#8, 0x24#8⟩
    [(0x1310, 0x42#8)] = true := by decide

theorem test_LS20_staIndirectIndexed : runs { boot 0x8000#16 [0x91#8, 0x20#8] [(0x0020#16, 0xF8#8), (0x0021#16, 0x30#8)] with a := 0x77#8, y := 0x10#8 } 6
    ⟨0x77#8, 0x00#8, 0x10#8, 0x8002#16, 0xFD#8, 0x24#8⟩
    [(0x3108, 0x77#8)] = true := by decide

theorem test_LS18_stxZeroPageY : runs { boot 0x8000#16 [0x96#8, 0x10#8] [] with x := 0xAB#8, y := 0x05#8 } 4
    ⟨0x00#8, 0xAB#8, 0x05#8, 0x8002#16, 0xFD#8, 0x24#8⟩
    [(0x0015, 0xAB#8)] = true := by decide

theorem test_LS19_styZeroPageX : runs { boot 0x8000#16 [0x94#8, 0x10#8] [] with y := 0xCD#8, x := 0x05#8 } 4
    ⟨0x00#8, 0x05#8, 0xCD#8, 0x8002#16, 0xFD#8, 0x24#8⟩
    [(0x0015, 0xCD#8)] = true := by decide

theorem test_LS24_tax : runs { boot 0x8000#16 [0xAA#8] [] with a := 0x80#8 } 2
    ⟨0x80#8, 0x80#8, 0x00#8, 0x8001#16, 0xFD#8, 0xA4#8⟩
    [] = true := by decide

theorem test_LS25_tay : runs { boot 0x8000#16 [0xA8#8] [] with y := 0x55#8 } 2
    ⟨0x00#8, 0x00#8, 0x00#8, 0x8001#16, 0xFD#8, 0x26#8⟩
    [] = true := by decide

theorem test_LS26_tsx : runs (boot 0x8000#16 [0xBA#8] []) 2
    ⟨0x00#8, 0xFD#8, 0x00#8, 0x8001#16, 0xFD#8, 0xA4#8⟩
    [] = true := by decide

theorem test_LS27_txa : runs { boot 0x8000#16 [0x8A#8] [] with a := 0x55#8 } 2
    ⟨0x00#8, 0x00#8, 0x00#8, 0x8001#16, 0xFD#8, 0x26#8⟩
    [] = true := by decide

theorem test_LS28_txs : runs { boot 0x8000#16 [0x9A#8] [] with p := 0xA4#8 } 2
    ⟨0x00#8, 0x00#8, 0x00#8, 0x8001#16, 0x00#8, 0xA4#8⟩
    [] = true := by decide

theorem test_LS29_tya : runs { boot 0x8000#16 [0x98#8] [] with y := 0x7F#8, a := 0x80#8, p := 0xA4#8 } 2
    ⟨0x7F#8, 0x00#8, 0x7F#8, 0x8001#16, 0xFD#8, 0x24#8⟩
    [] = true := by decide

theorem test_AR4_adcImmediate : runs { boot 0x8000#16 [0x69#8, 0x80#8] [] with a := 0x80#8 } 2
    ⟨0x00#8, 0x00#8, 0x00#8, 0x8002#16, 0xFD#8, 0x67#8⟩
    [] = true := by decide

theorem test_AD7_adcImmediate : runs { boot 0x8000#16 [0x69#8, 0xFF#8] [] with a := 0xFF#8, p := 0x2D#8 } 2
    ⟨0x31#8, 0x00#8, 0x00#8, 0x8002#16, 0xFD#8, 0x2D#8⟩
    [] = true := by decide

theorem test_SB2_sbcImmediate : runs { boot 0x8000#16 [0xE9#8, 0x01#8] [] with a := 0x80#8, p := 0x25#8 } 2
    ⟨0x7F#8, 0x00#8, 0x00#8, 0x8002#16, 0xFD#8, 0x65#8⟩
    [] = true := by decide

theorem test_SD6_sbcImmediate : runs { boot 0x8000#16 [0xE9#8, 0x99#8] [] with p := 0x2D#8 } 2
    ⟨0x01#8, 0x00#8, 0x00#8, 0x8002#16, 0xFD#8, 0x2C#8⟩
    [] = true := by decide

theorem test_LG7_andZeroPageX : runs { boot 0x8000#16 [0x35#8, 0xF0#8] [(0x0010#16, 0x3C#8)] with a := 0xFF#8, x := 0x20#8 } 4
    ⟨0x3C#8, 0x20#8, 0x00#8, 0x8002#16, 0xFD#8, 0x24#8⟩
    [] = true := by decide

theorem test_LG2_andImmediate : runs { boot 0x8000#16 [0x29#8, 0xF0#8] [] with a := 0x8F#8 } 2
    ⟨0x80#8, 0x00#8, 0x00#8, 0x8002#16, 0xFD#8, 0xA4#8⟩
    [] = true := by decide

theorem test_LG8_oraIndirectIndexed : runs { boot 0x8000#16 [0x11#8, 0x20#8] [(0x0020#16, 0xF8#8), (0x0021#16, 0x30#8), (0x3108#16, 0x40#8)] with a := 0x01#8, y := 0x10#8 } 6
    ⟨0x41#8, 0x00#8, 0x10#8, 0x8002#16, 0xFD#8, 0x24#8⟩
    [] = true := by decide

theorem test_LG5_eorImmediate : runs { boot 0x8000#16 [0x49#8, 0xFF#8] [] with a := 0xFF#8 } 2
    ⟨0x00#8, 0x00#8, 0x00#8, 0x8002#16, 0xFD#8, 0x26#8⟩
    [] = true := by decide

theorem test_LG9_bitZeroPage : runs { boot 0x8000#16 [0x24#8, 0x10#8] [(0x0010#16, 0xC0#8)] with a := 0x01#8 } 3
    ⟨0x01#8, 0x00#8, 0x00#8, 0x8002#16, 0xFD#8, 0xE6#8⟩
    [] = true := by decide

theorem test_LG10_bitAbsolute : runs { boot 0x8000#16 [0x2C#8, 0x00#8, 0x03#8] [(0x0300#16, 0x3F#8)] with a := 0xFF#8, p := 0xE6#8 } 4
    ⟨0xFF#8, 0x00#8, 0x00#8, 0x8003#16, 0xFD#8, 0x24#8⟩
    [] = true := by decide

theorem test_SH2_aslAccumulator : runs { boot 0x8000#16 [0x0A#8] [] with a := 0x40#8, p := 0x25#8 } 2
    ⟨0x80#8, 0x00#8, 0x00#8, 0x8001#16, 0xFD#8, 0xA4#8⟩
    [] = true := by decide

theorem test_SH9_aslZeroPage : runs (boot 0x8000#16 [0x06#8, 0x10#8] [(0x0010#16, 0x55#8)]) 5
    ⟨0x00#8, 0x00#8, 0x00#8, 0x8002#16, 0xFD#8, 0xA4#8⟩
    [(0x0010, 0xAA#8)] = true := by decide

theorem test_SH4_lsrAccumulator : runs { boot 0x8000#16 [0x4A#8] [] with a := 0x80#8, p := 0xA5#8 } 2
    ⟨0x40#8, 0x00#8, 0x00#8, 0x8001#16, 0xFD#8, 0x24#8⟩
    [] = true := by decide

theorem test_SH11_lsrZeroPageX : runs { boot 0x8000#16 [0x56#8, 0xF0#8] [(0x0010#16, 0x03#8), (0x0110#16, 0xFF#8)] with x := 0x20#8 } 6
    ⟨0x00#8, 0x20#8, 0x00#8, 0x8002#16, 0xFD#8, 0x25#8⟩
    [(0x0010, 0x01#8)] = true := by decide

theorem test_SH5_rolAccumulator : runs { boot 0x8000#16 [0x2A#8] [] with a := 0x80#8, p := 0x25#8 } 2
    ⟨0x01#8, 0x00#8, 0x00#8, 0x8001#16, 0xFD#8, 0x25#8⟩
    [] = true := by decide

theorem test_SH12_rolAbsolute : runs { boot 0x8000#16 [0x2E#8, 0x00#8, 0x03#8] [(0x0300#16, 0xFF#8)] with p := 0x25#8 } 6
    ⟨0x00#8, 0x00#8, 0x00#8, 0x8003#16, 0xFD#8, 0xA5#8⟩
    [(0x0300, 0xFF#8)] = true := by decide

theorem test_SH8_rorAccumulator : runs { boot 0x8000#16 [0x6A#8] [] with p := 0x25#8 } 2
    ⟨0x80#8, 0x00#8, 0x00#8, 0x8001#16, 0xFD#8, 0xA4#8⟩
    [] = true := by decide

theorem test_SH10_rorAbsoluteX : runs { boot 0x8000#16 [0x7E#8, 0xFF#8, 0x02#8] [(0x0300#16, 0x02#8)] with x := 0x01#8, p := 0x25#8 } 7
    ⟨0x00#8, 0x01#8, 0x00#8, 0x8003#16, 0xFD#8, 0xA4#8⟩
    [(0x0300, 0x81#8)] = true := by decide

theorem test_ID1_incZeroPage : runs (boot 0x8000#16 [0xE6#8, 0x10#8] [(0x0010#16, 0xFF#8)]) 5
    ⟨0x00#8, 0x00#8, 0x00#8, 0x8002#16, 0xFD#8, 0x26#8⟩
    [(0x0010, 0x00#8)] = true := by decide

theorem test_ID3_incAbsoluteX : runs { boot 0x8000#16 [0xFE#8, 0xFF#8, 0x02#8] [(0x0300#16, 0x7F#8)] with x := 0x01#8 } 7
    ⟨0x00#8, 0x01#8, 0x00#8, 0x8003#16, 0xFD#8, 0xA4#8⟩
    [(0x0300, 0x80#8)] = true := by decide

theorem test_ID2_decZeroPage : runs (boot 0x8000#16 [0xC6#8, 0x10#8] []) 5
    ⟨0x00#8, 0x00#8, 0x00#8, 0x8002#16, 0xFD#8, 0xA4#8⟩
    [(0x0010, 0xFF#8)] = true := by decide

theorem test_ID4_decAbsolute : runs { boot 0x8000#16 [0xCE#8, 0x00#8, 0x03#8] [(0x0300#16, 0x01#8)] with p := 0x25#8 } 6
    ⟨0x00#8, 0x00#8, 0x00#8, 0x8003#16, 0xFD#8, 0x27#8⟩
    [(0x0300, 0x00#8)] = true := by decide

theorem test_ID5_inx : runs { boot 0x8000#16 [0xE8#8] [] with x := 0xFF#8 } 2
    ⟨0x00#8, 0x00#8, 0x00#8, 0x8001#16, 0xFD#8, 0x26#8⟩
    [] = true := by decide

theorem test_ID6_iny : runs { boot 0x8000#16 [0xC8#8] [] with y := 0x7F#8 } 2
    ⟨0x00#8, 0x00#8, 0x80#8, 0x8001#16, 0xFD#8, 0xA4#8⟩
    [] = true := by decide

theorem test_ID7_dex : runs { boot 0x8000#16 [0xCA#8] [] with x := 0x01#8 } 2
    ⟨0x00#8, 0x00#8, 0x00#8, 0x8001#16, 0xFD#8, 0x26#8⟩
    [] = true := by decide

theorem test_ID8_dey : runs (boot 0x8000#16 [0x88#8] []) 2
    ⟨0x00#8, 0x00#8, 0xFF#8, 0x8001#16, 0xFD#8, 0xA4#8⟩
    [] = true := by decide

theorem test_ID13_cmpImmediate : runs { boot 0x8000#16 [0xC9#8, 0x00#8] [] with a := 0xFF#8, p := 0x64#8 } 2
    ⟨0xFF#8, 0x00#8, 0x00#8, 0x8002#16, 0xFD#8, 0xE5#8⟩
    [] = true := by decide

theorem test_ID18_cmpIndirectIndexed : runs { boot 0x8000#16 [0xD1#8, 0x20#8] [(0x0020#16, 0xF8#8), (0x0021#16, 0x30#8), (0x3108#16, 0x42#8)] with a := 0x42#8, y := 0x10#8 } 6
    ⟨0x42#8, 0x00#8, 0x10#8, 0x8002#16, 0xFD#8, 0x27#8⟩
    [] = true := by decide

theorem test_ID15_cpxZeroPage : runs { boot 0x8000#16 [0xE4#8, 0x10#8] [(0x0010#16, 0x10#8)] with x := 0x10#8 } 3
    ⟨0x00#8, 0x10#8, 0x00#8, 0x8002#16, 0xFD#8, 0x27#8⟩
    [] = true := by decide

theorem test_ID14_cpxImmediate : runs { boot 0x8000#16 [0xE0#8, 0x10#8] [] with x := 0x20#8 } 2
    ⟨0x00#8, 0x20#8, 0x00#8, 0x8002#16, 0xFD#8, 0x25#8⟩
    [] = true := by decide

theorem test_ID16_cpyImmediate : runs { boot 0x8000#16 [0xC0#8, 0x80#8] [] with y := 0x7F#8 } 2
    ⟨0x00#8, 0x00#8, 0x7F#8, 0x8002#16, 0xFD#8, 0xA4#8⟩
    [] = true := by decide

theorem test_ID17_cpyAbsolute : runs { boot 0x8000#16 [0xCC#8, 0x00#8, 0x03#8] [] with y := 0x01#8 } 4
    ⟨0x00#8, 0x00#8, 0x01#8, 0x8003#16, 0xFD#8, 0x25#8⟩
    [] = true := by decide

theorem test_BR12_bpl : runs (boot 0x8000#16 [0x10#8, 0x00#8] []) 3
    ⟨0x00#8, 0x00#8, 0x00#8, 0x8002#16, 0xFD#8, 0x24#8⟩
    [] = true := by decide

theorem test_BR7_bpl : runs { boot 0x8000#16 [0x10#8, 0x10#8] [] with p := 0xA4#8 } 2
    ⟨0x00#8, 0x00#8, 0x00#8, 0x8002#16, 0xFD#8, 0xA4#8⟩
    [] = true := by decide

theorem test_BR6_bmi : runs { boot 0x8000#16 [0x30#8, 0x10#8] [] with p := 0xA4#8 } 3
    ⟨0x00#8, 0x00#8, 0x00#8, 0x8012#16, 0xFD#8, 0xA4#8⟩
    [] = true := by decide

theorem test_BR8_bvc : runs (boot 0x8000#16 [0x50#8, 0x7F#8] []) 3
    ⟨0x00#8, 0x00#8, 0x00#8, 0x8081#16, 0xFD#8, 0x24#8⟩
    [] = true := by decide

theorem test_BR9_bvs : runs { boot 0x8000#16 [0x70#8, 0x80#8] [] with p := 0x64#8 } 4
    ⟨0x00#8, 0x00#8, 0x00#8, 0x7F82#16, 0xFD#8, 0x64#8⟩
    [] = true := by decide

theorem test_BR4_bcc : runs (boot 0x80FC#16 [0x90#8, 0x02#8] []) 4
    ⟨0x00#8, 0x00#8, 0x00#8, 0x8100#16, 0xFD#8, 0x24#8⟩
    [] = true := by decide

theorem test_BR5_bcs : runs { boot 0x8100#16 [0xB0#8, 0xFC#8] [] with p := 0x25#8 } 4
    ⟨0x00#8, 0x00#8, 0x00#8, 0x80FE#16, 0xFD#8, 0x25#8⟩
    [] = true := by decide

theorem test_BR10_bcs : runs (boot 0x8000#16 [0xB0#8, 0x10#8] []) 2
    ⟨0x00#8, 0x00#8, 0x00#8, 0x8002#16, 0xFD#8, 0x24#8⟩
    [] = true := by decide

theorem test_BR1_bne : runs (boot 0x8000#16 [0xD0#8, 0x02#8] []) 3
    ⟨0x00#8, 0x00#8, 0x00#8, 0x8004#16, 0xFD#8, 0x24#8⟩
    [] = true := by decide

theorem test_BR3_bne : runs (boot 0x8000#16 [0xD0#8, 0xFE#8] []) 3
    ⟨0x00#8, 0x00#8, 0x00#8, 0x8000#16, 0xFD#8, 0x24#8⟩
    [] = true := by decide

theorem test_BR2_beq : runs (boot 0x8000#16 [0xF0#8, 0x02#8] []) 2
    ⟨0x00#8, 0x00#8, 0x00#8, 0x8002#16, 0xFD#8, 0x24#8⟩
    [] = true := by decide

theorem test_BR11_beq : runs { boot 0xFFF0#16 [0xF0#8, 0x7F#8] [] with p := 0x26#8 } 4
    ⟨0x00#8, 0x00#8, 0x00#8, 0x0071#16, 0xFD#8, 0x26#8⟩
    [] = true := by decide

theorem test_JP1_jmpAbsolute : runs (boot 0x8000#16 [0x4C#8, 0x34#8, 0x12#8] []) 3
    ⟨0x00#8, 0x00#8, 0x00#8, 0x1234#16, 0xFD#8, 0x24#8⟩
    [] = true := by decide

theorem test_JP2_jmpIndirect : runs (boot 0x8000#16 [0x6C#8, 0xFF#8, 0x10#8] [(0x1000#16, 0x12#8), (0x10FF#16, 0x34#8), (0x1100#16, 0x56#8)]) 5
    ⟨0x00#8, 0x00#8, 0x00#8, 0x1234#16, 0xFD#8, 0x24#8⟩
    [] = true := by decide

theorem test_JS1_jsr : runs (boot 0x8000#16 [0x20#8, 0x00#8, 0x90#8] []) 6
    ⟨0x00#8, 0x00#8, 0x00#8, 0x9000#16, 0xFB#8, 0x24#8⟩
    [(0x01FD, 0x80#8), (0x01FC, 0x02#8)] = true := by decide

theorem test_JS2_jsr : runs { boot 0x8000#16 [0x20#8, 0x00#8, 0x90#8] [] with sp := 0x00#8 } 6
    ⟨0x00#8, 0x00#8, 0x00#8, 0x9000#16, 0xFE#8, 0x24#8⟩
    [(0x0100, 0x80#8), (0x01FF, 0x02#8)] = true := by decide

theorem test_JS3_rts : runs { boot 0x8000#16 [0x60#8] [(0x01FC#16, 0x07#8), (0x01FD#16, 0x80#8)] with sp := 0xFB#8 } 6
    ⟨0x00#8, 0x00#8, 0x00#8, 0x8008#16, 0xFD#8, 0x24#8⟩
    [] = true := by decide

theorem test_JS4_rts : runs { boot 0x8000#16 [0x60#8] [(0x0100#16, 0xFF#8), (0x01FF#16, 0xFF#8)] with sp := 0xFE#8 } 6
    ⟨0x00#8, 0x00#8, 0x00#8, 0x0000#16, 0x00#8, 0x24#8⟩
    [] = true := by decide

theorem test_ST1_pha : runs { boot 0x8000#16 [0x48#8] [] with a := 0x42#8 } 3
    ⟨0x42#8, 0x00#8, 0x00#8, 0x8001#16, 0xFC#8, 0x24#8⟩
    [(0x01FD, 0x42#8)] = true := by decide

theorem test_ST2_pha : runs { boot 0x8000#16 [0x48#8] [] with a := 0x42#8, sp := 0x00#8 } 3
    ⟨0x42#8, 0x00#8, 0x00#8, 0x8001#16, 0xFF#8, 0x24#8⟩
    [(0x0100, 0x42#8)] = true := by decide

theorem test_ST3_pla : runs { boot 0x8000#16 [0x68#8] [] with sp := 0xFC#8, a := 0x55#8 } 4
    ⟨0x00#8, 0x00#8, 0x00#8, 0x8001#16, 0xFD#8, 0x26#8⟩
    [] = true := by decide

theorem test_ST4_pla : runs { boot 0x8000#16 [0x68#8] [(0x0100#16, 0x80#8)] with sp := 0xFF#8 } 4
    ⟨0x80#8, 0x00#8, 0x00#8, 0x8001#16, 0x00#8, 0xA4#8⟩
    [] = true := by decide

theorem test_ST5_php : runs (boot 0x8000#16 [0x08#8] []) 3
    ⟨0x00#8, 0x00#8, 0x00#8, 0x8001#16, 0xFC#8, 0x24#8⟩
    [(0x01FD, 0x34#8)] = true := by decide

theorem test_ST6_php : runs { boot 0x8000#16 [0x08#8] [] with p := 0xEF#8 } 3
    ⟨0x00#8, 0x00#8, 0x00#8, 0x8001#16, 0xFC#8, 0xEF#8⟩
    [(0x01FD, 0xFF#8)] = true := by decide

theorem test_ST7_plp : runs { boot 0x8000#16 [0x28#8] [(0x01FD#16, 0xFF#8)] with sp := 0xFC#8 } 4
    ⟨0x00#8, 0x00#8, 0x00#8, 0x8001#16, 0xFD#8, 0xEF#8⟩
    [] = true := by decide

theorem test_ST8_plp : runs { boot 0x8000#16 [0x28#8] [] with sp := 0xFC#8 } 4
    ⟨0x00#8, 0x00#8, 0x00#8, 0x8001#16, 0xFD#8, 0x20#8⟩
    [] = true := by decide

theorem test_ST10_clc : runs { boot 0x8000#16 [0x18#8] [] with p := 0x25#8 } 2
    ⟨0x00#8, 0x00#8, 0x00#8, 0x8001#16, 0xFD#8, 0x24#8⟩
    [] = true := by decide

theorem test_ST11_sec : runs (boot 0x8000#16 [0x38#8] []) 2
    ⟨0x00#8, 0x00#8, 0x00#8, 0x8001#16, 0xFD#8, 0x25#8⟩
    [] = true := by decide

theorem test_ST12_cli : runs (boot 0x8000#16 [0x58#8] []) 2
    ⟨0x00#8, 0x00#8, 0x00#8, 0x8001#16, 0xFD#8, 0x20#8⟩
    [] = true := by decide

theorem test_ST13_sei : runs { boot 0x8000#16 [0x78#8] [] with p := 0x20#8 } 2
    ⟨0x00#8, 0x00#8, 0x00#8, 0x8001#16, 0xFD#8, 0x24#8⟩
    [] = true := by decide

theorem test_ST14_cld : runs { boot 0x8000#16 [0xD8#8] [] with p := 0x2C#8 } 2
    ⟨0x00#8, 0x00#8, 0x00#8, 0x8001#16, 0xFD#8, 0x24#8⟩
    [] = true := by decide

theorem test_ST15_sed : runs (boot 0x8000#16 [0xF8#8] []) 2
    ⟨0x00#8, 0x00#8, 0x00#8, 0x8001#16, 0xFD#8, 0x2C#8⟩
    [] = true := by decide

theorem test_ST16_clv : runs { boot 0x8000#16 [0xB8#8] [] with p := 0x64#8 } 2
    ⟨0x00#8, 0x00#8, 0x00#8, 0x8001#16, 0xFD#8, 0x24#8⟩
    [] = true := by decide

theorem test_SY1_brk : runs (boot 0x8000#16 [0x00#8, 0xEA#8] [(0xFFFF#16, 0x90#8)]) 7
    ⟨0x00#8, 0x00#8, 0x00#8, 0x9000#16, 0xFA#8, 0x24#8⟩
    [(0x01FD, 0x80#8), (0x01FC, 0x02#8), (0x01FB, 0x34#8)] = true := by decide

theorem test_SY2_brk : runs { boot 0x8000#16 [0x00#8, 0xEA#8] [(0xFFFF#16, 0x90#8)] with p := 0xEB#8, sp := 0x01#8 } 7
    ⟨0x00#8, 0x00#8, 0x00#8, 0x9000#16, 0xFE#8, 0xEF#8⟩
    [(0x0101, 0x80#8), (0x0100, 0x02#8), (0x01FF, 0xFB#8)] = true := by decide

theorem test_SY3_rti : runs { boot 0x8000#16 [0x40#8] [(0x01FB#16, 0x34#8), (0x01FC#16, 0x07#8), (0x01FD#16, 0x80#8)] with sp := 0xFA#8 } 6
    ⟨0x00#8, 0x00#8, 0x00#8, 0x8007#16, 0xFD#8, 0x24#8⟩
    [] = true := by decide

theorem test_SY4_rti : runs { boot 0x8000#16 [0x40#8] [(0x01FB#16, 0xDF#8)] with sp := 0xFA#8 } 6
    ⟨0x00#8, 0x00#8, 0x00#8, 0x0000#16, 0xFD#8, 0xEF#8⟩
    [] = true := by decide

theorem test_SY5_nop : runs { boot 0x8000#16 [0xEA#8] [] with a := 0x01#8, x := 0x02#8, y := 0x03#8, p := 0xE7#8 } 2
    ⟨0x01#8, 0x02#8, 0x03#8, 0x8001#16, 0xFD#8, 0xE7#8⟩
    [] = true := by decide

theorem test_SY6_illegal : failsAt { boot 0x8000#16 [0x02#8] [] with a := 0x01#8, x := 0x02#8, y := 0x03#8, p := 0xE7#8 } 0x02#8
    ⟨0x01#8, 0x02#8, 0x03#8, 0x8001#16, 0xFD#8, 0xE7#8⟩ = true := by decide

theorem test_SY8_illegal : failsAt (boot 0x8000#16 [0x80#8, 0x10#8] []) 0x80#8
    ⟨0x00#8, 0x00#8, 0x00#8, 0x8001#16, 0xFD#8, 0x24#8⟩ = true := by decide

/-! The bus, its devices, reset and the host operations: the V-MEM vectors. -/

/-- M1: an address past RAM that no device claims reads 0xFF. -/
theorem test_M1_open_bus :
    runs { State.reset with
        pc := 0x0200#16
        bus := Bus.bare 0x1000 (Memory.writeAll [] 0x0200 [0xAD#8, 0x00#8, 0x20#8]) } 4
      ⟨0xFF#8, 0x00#8, 0x00#8, 0x0203#16, 0xFD#8, 0xA4#8⟩ [] = true := by decide

/-- M3: reset with the vector unmapped. -/
theorem test_M3_reset_open_bus :
    (match cpuNew (some (Bus.bare 0x1000 [])) with
      | .ok s => s.snapshot == ⟨0x00#8, 0x00#8, 0x00#8, 0xFFFF#16, 0xFD#8, 0x24#8⟩
      | .error _ => false) = true := by decide

/-- S1: the reset vector, low byte first. -/
theorem test_S1_reset_vector :
    (boot 0x0000#16 [] [(0xFFFC#16, 0x34#8), (0xFFFD#16, 0x12#8)]).resetCpu.snapshot =
      ⟨0x00#8, 0x00#8, 0x00#8, 0x1234#16, 0xFD#8, 0x24#8⟩ := by decide

/-- M5 and M6: `load` past the end fails whole, up to the end succeeds. -/
theorem test_M5_M6_load :
    (match (Bus.bare 0x1000 []).load 0x0FFF#16 [0x01#8, 0x02#8] with
      | .ok _ => false | .error e => decide (e = .outOfRange)) = true ∧
    (match (Bus.bare 0x1000 []).load 0x0FFE#16 [0x01#8, 0x02#8] with
      | .ok b => b.ramByte 0x0FFE == 0x01#8 && b.ramByte 0x0FFF == 0x02#8
      | .error _ => false) = true := by decide

/-- M7: the bridge shadows RAM; OutputData reads 0. -/
theorem test_M7_output_data_reads_zero :
    runs (withBridge (boot 0x8000#16 [0xAD#8, 0x01#8, 0xF0#8] [(0xF001#16, 0x99#8)]) []) 4
      ⟨0x00#8, 0x00#8, 0x00#8, 0x8003#16, 0xFD#8, 0x26#8⟩ [(0xF001, 0x99#8)] = true := by decide

/-- M10: a read-modify-write of InputData dequeues a byte and the write is ignored. -/
theorem test_M10_inc_input_data :
    (match hostStep (withBridge (boot 0x8000#16 [0xEE#8, 0x05#8, 0xF0#8] []) [0x41#8]) with
      | .done _ t => t.snapshot == ⟨0x00#8, 0x00#8, 0x00#8, 0x8003#16, 0xFD#8, 0x24#8⟩ &&
          decide (t.bus.devices = [.console Bridge.default])
      | .failed _ _ => false | .refused _ => false) = true := by decide

/-- M12, first step: a store to OutputData reaches the sink, not RAM. -/
theorem test_M12_output :
    (match hostStep { withBridge (boot 0x8000#16 [0x8D#8, 0x01#8, 0xF0#8] []) [] with a := 0x0A#8 } with
      | .done _ t =>
          decide (t.bus.devices = [.console { Bridge.default with sink := [0x0A#8] }]) &&
            t.bus.ramByte 0xF001 == 0x00#8
      | .failed _ _ => false | .refused _ => false) = true := by decide

/-- M9: the reads of a two-byte FIFO return 01, 41, 42, 00, 00. -/
theorem test_M9_bridge_reads :
    (let b := Bridge.default.enqueue [0x41#8, 0x42#8]
     let r1 := b.read 0xF004#16
     let r2 := r1.2.read 0xF005#16
     let r3 := r2.2.read 0xF005#16
     let r4 := r3.2.read 0xF004#16
     let r5 := r4.2.read 0xF005#16
     [r1.1, r2.1, r3.1, r4.1, r5.1]) = [0x01#8, 0x41#8, 0x42#8, 0x00#8, 0x00#8] := by decide

/-- R296, C7: bytes that arrive while the program polls are seen by the next read of the status. -/
theorem test_arrivals_join_the_fifo :
    ({ Bridge.default with arrivals := [[], [0x48#8]] }.read 0xF004#16).1 = 0x00#8 ∧
    (({ Bridge.default with arrivals := [[], [0x48#8]] }.read 0xF004#16).2.read 0xF004#16).1 =
      0x01#8 := by decide

/-- D11: a codepoint above 255 is refused; D14: coinciding addresses are refused. -/
theorem test_host_refusals :
    (match (withBridge State.reset []).bus.submitInput 0 [0x48, 256] with
      | .ok _ => false | .error e => decide (e = .codepointTooLarge)) = true ∧
    (match (Bus.bare 1 []).attach (some (.console (Bridge.new 0x10#16 0x10#16 0x11#16))) with
      | .ok _ => false | .error e => decide (e = .equalBridgeAddresses)) = true := by decide

/-- D2: a host write of P is normalised. -/
theorem test_host_writes_status : (State.reset.hostSetP 0xD3#8).p = 0xE3#8 := by decide

/-- Corner case (e) of R171, D18: FF - 00 in decimal mode lies outside 0..99; A is the free value, C is
"not borrowed", V the binary one. -/
theorem test_decimal_subtraction_free_value :
    (subWithBorrow true 0xFF#8 0x00#8 true).value = Config.decSbcInvalid 0xFF#8 0x00#8 true ∧
    (subWithBorrow true 0xFF#8 0x00#8 true).carry = true ∧
    (subWithBorrow true 0xFF#8 0x00#8 true).overflow = false := ⟨rfl, by decide, by decide⟩

/-- P6's last step: `run` ends with the failure. -/
theorem test_run_ends_with_failure :
    (match run 3 (whileState fun _ => true) () (boot 0x8002#16 [0xCA#8, 0x02#8, 0xEA#8] []) with
      | .failed r _ t => decide (r = .illegalOpcode 0x02#8 ∧ t.pc = 0x8004#16 ∧ t.x = 0xFF#8)
      | .stopped _ _ _ => false | .refused _ => false | .unfinished _ _ _ => false) = true := by
  decide

/-- R284, C6: "run until PC == 8002" over two NOPs returns their 4 cycles (R321). -/
theorem test_run_until_pc :
    (match run 5 (whileState fun t => t.pc != 0x8002#16) () (boot 0x8000#16 [0xEA#8, 0xEA#8] []) with
      | .stopped c _ t => decide (c = 4#64 ∧ t.pc = 0x8002#16)
      | .failed _ _ _ => false | .refused _ => false | .unfinished _ _ _ => false) = true := by
  decide

/-- R286: a budget of 3 cycles over NOPs of 2 stops after the second, at 4. -/
theorem test_run_cycle_budget :
    (match run 3 (cycleBudget 3#64) () (boot 0x8000#16 [0xEA#8, 0xEA#8, 0xEA#8] []) with
      | .stopped c _ t => decide (c = 4#64 ∧ t.pc = 0x8002#16)
      | .failed _ _ _ => false | .refused _ => false | .unfinished _ _ _ => false) = true := by
  decide

/-- A timeout: the host's clock readings, each saying whether the deadline has passed. -/
def untilDeadline : RunPredicate (List Bool) := fun readings _ => (!readings.headD true, readings.tail)

/-- R284: the predicate, here a wall-clock check, is evaluated before each step; the deadline passes at
the second evaluation, after one NOP. -/
theorem test_run_timeout :
    (match run 3 untilDeadline [false, true, true] (boot 0x8000#16 [0xEA#8, 0xEA#8] []) with
      | .stopped c h t => decide (c = 2#64 ∧ h = [true] ∧ t.pc = 0x8001#16)
      | .failed _ _ _ => false | .refused _ => false | .unfinished _ _ _ => false) = true := by
  decide

/-! Inputs that meet the hypotheses of each obligation that has some. -/

theorem test_witness_DecodedBytesAreTheEncoding :
    decode [0xA9#8, 0x41#8, 0xEA#8] = .ok (.ldaImmediate 0x41#8, [0xEA#8]) := by rfl

theorem test_witness_IllegalOpcodesFailTheStep :
    (boot 0x8000#16 [0x02#8] []).bus.peek 0x8000#16 ∈ illegalBytes ∧
    (boot 0x8000#16 [0xEA#8] []).bus.peek 0x8000#16 ∉ illegalBytes := by decide

/-- The instruction's bytes lie at 0xFFFF, 0x0000 and 0x0001. -/
def atTop : State := boot 0xFFFF#16 [0x8D#8] [(0x0000#16, 0x34#8), (0x0001#16, 0x12#8)]

theorem test_witness_StepRunsDecodedInstruction :
    decode (fetchBytes (encode (.staAbsolute 0x1234#16)).length atTop.clearTransients).1 =
      .ok (.staAbsolute 0x1234#16, []) := by rfl

theorem test_witness_StepInPlainRamRunsInstruction :
    ∀ k : Nat, k < (encode (.staAbsolute 0x1234#16)).length →
      atTop.bus.isRam (atTop.pc + BitVec.ofNat 16 k) = true ∧
      (encode (.staAbsolute 0x1234#16))[k]? =
        some (atTop.bus.ramByte (atTop.pc + BitVec.ofNat 16 k).toNat) := by decide

theorem test_witness_IllegalOpcodeLeavesOnlyPcAdvanced :
    dispatch ((boot 0xFFFF#16 [0xFF#8] []).bus.peek 0xFFFF#16) = none := by rfl

/-- 7 cycles from BRK and from an AbsoluteX read-modify-write, 4 from a branch taken across a page, 5
from a load with a page crossing, 2 from a branch not taken. -/
theorem test_witness_CycleCountFormula :
    (∃ t, hostStep (boot 0x8000#16 [0x00#8] []) = .done 7#32 t) ∧
    (∃ t, hostStep (boot 0x8000#16 [0xFE#8, 0xFF#8, 0x02#8] []) = .done 7#32 t) ∧
    (∃ t, hostStep (boot 0x80FC#16 [0x90#8, 0x02#8] []) = .done 4#32 t) ∧
    (∃ t, hostStep { boot 0x8000#16 [0xBD#8, 0xF0#8, 0x12#8] [] with x := 0x20#8 } =
      .done 5#32 t) ∧
    (∃ t, hostStep (boot 0x8000#16 [0xF0#8, 0x02#8] []) = .done 2#32 t) ∧
    (boot 0x8000#16 [0x00#8] []).bus.peek 0x8000#16 ∈
      [0x00#8, 0x1E#8, 0x5E#8, 0x3E#8, 0x7E#8, 0xFE#8, 0xDE#8] :=
  ⟨⟨_, rfl⟩, ⟨_, rfl⟩, ⟨_, rfl⟩, ⟨_, rfl⟩, ⟨_, rfl⟩, by decide⟩

theorem test_witness_StepKeepsStateLawful :
    (boot 0x8000#16 [0x28#8] []).Inv ∧ ∃ t, step (boot 0x8000#16 [0x28#8] []) = .next t :=
  ⟨⟨by decide, by decide, by decide⟩, ⟨_, rfl⟩⟩

theorem test_witness_FailedStepKeepsStateLawful :
    (boot 0x8000#16 [0x02#8] []).Inv ∧
      ∃ t, hostStep (boot 0x8000#16 [0x02#8] []) = .failed (.illegalOpcode 0x02#8) t :=
  ⟨⟨by decide, by decide, by decide⟩, ⟨_, rfl⟩⟩

theorem test_witness_OnlyListedStateIsWritten :
    Flag.carry ∉ writtenFlags (Instr.ldaImmediate 0x41#8).mnemonic ∧ Flag.carry ≠ .unused ∧
    Reg.x ∉ writtenRegisters (.ldaImmediate 0x41#8) := by decide

theorem test_witness_OnlyListedInstructionsStore :
    storesNothing (.ldaAbsolute 0xF005#16) = true ∧ storesNothing .rorAccumulator = true ∧
    storesNothing (.rorZeroPage 0x10#8) = false := by decide

/-- Two devices that both claim 0xF004, behind one that does not, over 0x1000 bytes of RAM. -/
def crowded : Bus :=
  { Bus.bare 0x1000 [] with
    devices := [.other { id := 0, claims := [0x2000#16], history := [] },
      .console Bridge.default, .other { id := 1, claims := [0xF004#16], history := [] }] }

/-- The claimed case, and the last address of RAM and the first past it, of both routing rules. -/
theorem test_witness_BusReadRoutes_BusWriteRoutes :
    (∃ first d rest, crowded.devices = first ++ d :: rest ∧
      (∀ e ∈ first, e.handles 0xF004#16 = false) ∧ d.handles 0xF004#16 = true) ∧
    ((∀ d ∈ crowded.devices, d.handles 0x0FFF#16 = false) ∧
      (0x0FFF#16).toNat < crowded.ramSize ∧ crowded.mem.wf = true) ∧
    ((∀ d ∈ crowded.devices, d.handles 0x1000#16 = false) ∧
      crowded.ramSize ≤ (0x1000#16).toNat) :=
  ⟨⟨[.other { id := 0, claims := [0x2000#16], history := [] }], .console Bridge.default,
    [.other { id := 1, claims := [0xF004#16], history := [] }], rfl, by decide, by decide⟩,
    by decide, by decide⟩

/-- One bridge for each case of a read: a byte waiting, the three answers of the fallback, and bytes
that arrive. -/
theorem test_witness_BridgeReads :
    (Bridge.default.enqueue [0x41#8]).wf = true ∧
    (Bridge.default.enqueue [0x41#8]).arrive.fifo = 0x41#8 :: [] ∧
    (Bridge.default.wf = true ∧ Bridge.default.arrive.fifo = [] ∧
      Bridge.default.arrive.fallback = [] ∧ Bridge.default.arrivals = []) ∧
    ({ Bridge.default with fallback := [none] }.wf = true ∧
      { Bridge.default with fallback := [none] }.arrive.fifo = [] ∧
      { Bridge.default with fallback := [none] }.arrive.fallback = none :: []) ∧
    ({ Bridge.default with fallback := [some 0x42#8] }.arrive.fifo = [] ∧
      { Bridge.default with fallback := [some 0x42#8] }.arrive.fallback = some 0x42#8 :: []) ∧
    ({ Bridge.default with arrivals := [[0x43#8]] }.wf = true ∧
      { Bridge.default with arrivals := [[0x43#8]] }.arrivals = [0x43#8] :: []) := by decide

theorem test_witness_BridgeWrites : Bridge.default.wf = true := by decide

/-- Sizes at and past both bounds; and an operation of each kind that succeeds on a lawful bus. -/
theorem test_witness_HostOperationsKeepBusLawful :
    (1 ≤ 1 ∧ 1 ≤ 65536) ∧ (1 ≤ 65536 ∧ 65536 ≤ 65536) ∧ ¬ (1 ≤ 0 ∧ 0 ≤ 65536) ∧
    ¬ (1 ≤ 65537 ∧ 65537 ≤ 65536) ∧ crowded.wf = true ∧
    (∃ b, crowded.load 0x0FFF#16 [0x01#8] = .ok b) ∧
    (∃ b, crowded.attach (some (.console Bridge.default)) = .ok b) ∧
    (∃ b, crowded.submitInput 1 [0x48, 255] = .ok b) :=
  ⟨by decide, by decide, by decide, by decide, by decide, ⟨_, rfl⟩, ⟨_, rfl⟩, ⟨_, rfl⟩⟩

theorem test_witness_LoadCopiesOrFails :
    crowded.mem.wf = true ∧
    ((0x0FFE#16).toNat + [0x01#8, 0x02#8].length ≤ crowded.ramSize ∧
      [0x01#8, 0x02#8][1]? = some 0x02#8) ∧
    crowded.ramSize < (0x0FFF#16).toNat + [0x01#8, 0x02#8].length := by decide

theorem test_witness_ClearAndAttach :
    (Device.console Bridge.default).wf = true ∧
    (Bridge.new 0x10#16 0x10#16 0x11#16).outAddr = (Bridge.new 0x10#16 0x10#16 0x11#16).statusAddr ∧
    (Bridge.new 0x10#16 0x11#16 0x10#16).outAddr = (Bridge.new 0x10#16 0x11#16 0x10#16).dataAddr ∧
    (Bridge.new 0x11#16 0x10#16 0x10#16).statusAddr =
      (Bridge.new 0x11#16 0x10#16 0x10#16).dataAddr := by decide

/-- Each answer of a predicate that keeps state, with a total above 0; a step that succeeds and one that
fails; and a first evaluation that is false. -/
theorem test_witness_RunLoopsWhilePredicateHolds :
    untilDeadline [true, false] { cycles := 9#64, state := boot 0x8000#16 [0xEA#8] [] } =
      (false, [false]) ∧
    untilDeadline [true] { cycles := 0#64, state := boot 0x8000#16 [0xEA#8] [] } = (false, []) ∧
    (untilDeadline [false] { cycles := 9#64, state := boot 0x8000#16 [0xEA#8] [] } = (true, []) ∧
      ∃ t, hostStep (boot 0x8000#16 [0xEA#8] []) = .done 2#32 t) ∧
    (untilDeadline [false] { cycles := 9#64, state := boot 0x8000#16 [0x02#8] [] } = (true, []) ∧
      ∃ t, hostStep (boot 0x8000#16 [0x02#8] []) = .failed (.illegalOpcode 0x02#8) t) :=
  ⟨rfl, rfl, ⟨rfl, ⟨_, rfl⟩⟩, ⟨rfl, ⟨_, rfl⟩⟩⟩

/-- No budget, one of 3 cycles, and the largest. -/
theorem test_witness_CycleBudgetEndsTheRun :
    ((0#64).toNat ≤ 2 ^ 64 - 7 ∧ (0#64).toNat ≤ 0) ∧
    ((3#64).toNat ≤ 2 ^ 64 - 7 ∧ (3#64).toNat ≤ 3) ∧
    ((BitVec.ofNat 64 (2 ^ 64 - 7)).toNat ≤ 2 ^ 64 - 7 ∧
      (BitVec.ofNat 64 (2 ^ 64 - 7)).toNat ≤ 2 ^ 64) := by decide

/-- At a page's last byte the partner is the page's first; elsewhere the next byte. -/
theorem test_witness_IndirectJumpPointerStaysInPage :
    (0x1000#16).toNat = (0x10FF#16).toNat / 256 * 256 + ((0x10FF#16).toNat % 256 + 1) % 256 ∧
    ((0x10FF#16).toNat = (0x10FE#16).toNat / 256 * 256 + ((0x10FE#16).toNat % 256 + 1) % 256 ∧
      (0x10FE#16).toNat % 256 ≠ 255) := by decide

/-- LS8 and LS10: the pointer at 0xFF has its high byte at 0x0000. -/
theorem test_witness_IndirectDataModesReadPageZeroPointers :
    ((0x00FF#16).toNat = ((0xFE#8).toNat + ({ State.reset with x := 0x01#8 }).x.toNat) % 256 ∧
      (0x0000#16).toNat = ((0xFE#8).toNat + ({ State.reset with x := 0x01#8 }).x.toNat + 1) % 256) ∧
    ((0x00FF#16).toNat = (0xFF#8).toNat ∧ (0x0000#16).toNat = ((0xFF#8).toNat + 1) % 256) ∧
    ∃ w : Nat, w = (State.reset.bus.read 0x00FF#16).1.toNat +
      256 * ((State.reset.bus.read 0x00FF#16).2.read 0x0000#16).1.toNat :=
  ⟨by decide, by decide, ⟨_, rfl⟩⟩

/-- The stack wraps: a push with SP = 00 and a pull with SP = FF both use 0x0100. -/
theorem test_witness_PushAndPull :
    (0x0100#16).toNat = 256 + ({ State.reset with sp := 0x00#8 }).sp.toNat ∧
    (0x0100#16).toNat = 256 + (({ State.reset with sp := 0xFF#8 }).sp.toNat + 1) % 256 := by decide

theorem test_witness_FlagWrites :
    Flag.break ≠ .unused ∧ Flag.carry ∉ [Flag.break] := by decide

/-- Binary and decimal mode; the premises of each clause of ADC. -/
theorem test_witness_AddWithCarry :
    ({ State.reset with p := 0x25#8 }).flag .decimal = false ∧
    ({ State.reset with p := 0x2D#8, a := 0x99#8 }).flag .decimal = true ∧
    (∃ dsum, dsum = bcd 0x99#8 + bcd 0x99#8 + num true) ∧
    ∃ r : Byte, r = 0xFF#8 + 0xFF#8 + BitVec.ofNat 8 (num true) :=
  ⟨by decide, by decide, ⟨_, rfl⟩, ⟨_, rfl⟩⟩

/-- Binary and decimal mode; decimal results at both ends of 0..99, and past each. -/
theorem test_witness_SubtractWithBorrow :
    ({ State.reset with p := 0x25#8 }).flag .decimal = false ∧
    ({ State.reset with p := 0x2D#8 }).flag .decimal = true ∧
    (∃ d r : Int, d = (bcd 0x99#8 : Int) - bcd 0x00#8 - (1 - (num true : Int)) ∧
      r = (if d < 0 then d + 100 else d) ∧ (0 ≤ r ∧ r ≤ 99)) ∧
    (∃ d r : Int, d = (bcd 0x00#8 : Int) - bcd 0x99#8 - (1 - (num false : Int)) ∧
      r = (if d < 0 then d + 100 else d) ∧ (0 ≤ r ∧ r ≤ 99)) ∧
    (∃ d r : Int, d = (bcd 0x9A#8 : Int) - bcd 0x00#8 - (1 - (num true : Int)) ∧
      r = (if d < 0 then d + 100 else d) ∧ ¬ (0 ≤ r ∧ r ≤ 99)) ∧
    (∃ d r : Int, d = (bcd 0x00#8 : Int) - bcd 0x9A#8 - (1 - (num false : Int)) ∧
      r = (if d < 0 then d + 100 else d) ∧ ¬ (0 ≤ r ∧ r ≤ 99)) :=
  ⟨by decide, by decide, ⟨99, 99, by decide⟩, ⟨-100, 0, by decide⟩, ⟨100, 100, by decide⟩,
    ⟨-101, -1, by decide⟩⟩

theorem test_witness_BinaryAddThenSubtractRoundTrips : State.reset.flag .decimal = false := by
  decide

/-- Each tested flag both ways. -/
theorem test_witness_BranchesTakenAndNotTaken :
    ∀ f ∈ [Flag.negative, .overflow, .carry, .zero],
      ({ State.reset with p := 0xE7#8 }).flag f = true ∧ State.reset.flag f = false := by decide

/-- With SP = 00 the return address goes to 0x0100 and 0x01FF; PC = 0000 gives 0xFFFF. -/
theorem test_witness_CallPushesReturnAddressMinusOne :
    (0x0100#16).toNat = 256 + ({ State.reset with sp := 0x00#8 }).sp.toNat ∧
    (0x01FF#16).toNat = 256 + (({ State.reset with sp := 0x00#8 }).sp.toNat + 255) % 256 ∧
    (0xFFFF#16).toNat = (({ State.reset with sp := 0x00#8 }).pc.toNat + 65535) % 65536 := by decide

theorem test_witness_ReturnPullsWordPlusOne :
    (0x01FF#16).toNat = 256 + (({ State.reset with sp := 0xFE#8 }).sp.toNat + 1) % 256 ∧
    (0x0100#16).toNat = 256 + (({ State.reset with sp := 0xFE#8 }).sp.toNat + 2) % 256 := by decide

theorem test_witness_CallThenReturnRoundTrips :
    State.reset.bus.mem.wf = true ∧ (0x01FD#16).toNat = 256 + State.reset.sp.toNat ∧
    (0x01FC#16).toNat = 256 + (State.reset.sp.toNat + 255) % 256 ∧
    State.reset.bus.isRam 0x01FD#16 = true ∧ State.reset.bus.isRam 0x01FC#16 = true := by decide

theorem test_witness_PushesStoreOneByte :
    (0x0100#16).toNat = 256 + ({ State.reset with sp := 0x00#8 }).sp.toNat := by decide

theorem test_witness_PullsReadOneByte :
    (0x0100#16).toNat = 256 + (({ State.reset with sp := 0xFF#8 }).sp.toNat + 1) % 256 := by decide

/-- SY2's stack: with SP = 01 the three bytes go to 0x0101, 0x0100 and 0x01FF. -/
theorem test_witness_BreakTakesTheTrap :
    (0x0101#16).toNat = 256 + ({ State.reset with sp := 0x01#8 }).sp.toNat ∧
    (0x0100#16).toNat = 256 + (({ State.reset with sp := 0x01#8 }).sp.toNat + 255) % 256 ∧
    (0x01FF#16).toNat = 256 + (({ State.reset with sp := 0x01#8 }).sp.toNat + 254) % 256 ∧
    (0x0001#16).toNat = (({ State.reset with sp := 0x01#8 }).pc.toNat + 1) % 65536 := by decide

theorem test_witness_ReturnFromInterruptRestores :
    (0x01FE#16).toNat = 256 + (State.reset.sp.toNat + 1) % 256 ∧
    (0x01FF#16).toNat = 256 + (State.reset.sp.toNat + 2) % 256 ∧
    (0x0100#16).toNat = 256 + (State.reset.sp.toNat + 3) % 256 := by decide

theorem test_witness_BreakThenReturnRoundTrips :
    State.reset.Inv ∧ (0x01FD#16).toNat = 256 + State.reset.sp.toNat ∧
    (0x01FC#16).toNat = 256 + (State.reset.sp.toNat + 255) % 256 ∧
    (0x01FB#16).toNat = 256 + (State.reset.sp.toNat + 254) % 256 ∧
    State.reset.bus.isRam 0x01FD#16 = true ∧ State.reset.bus.isRam 0x01FC#16 = true ∧
    State.reset.bus.isRam 0x01FB#16 = true :=
  ⟨⟨by decide, by decide, by decide⟩, by decide⟩

theorem test_witness_NopChangesNothing :
    (boot 0x8000#16 [0xEA#8] []).bus.peek (boot 0x8000#16 [0xEA#8] []).pc = 0xEA#8 := by decide

/-- Three bytes with an entry, one with each adder; and a base read from R321 by hand: STA (zp),Y 6. -/
theorem test_witness_BaseCyclesAreTheDefaultTable :
    (∃ e, dispatch 0xBD#8 = some e ∧ e.pageCrossAdder = true) ∧
    (∃ e, dispatch 0xF0#8 = some e ∧ e.branchAdder = true) ∧
    (∃ e, dispatch 0x91#8 = some e ∧ e.baseCycles = 6) :=
  ⟨⟨_, rfl, rfl⟩, ⟨_, rfl, rfl⟩, ⟨_, rfl, rfl⟩⟩

end Sys2Proof.Tests
end

/-! PROOFS of the family 20_memory.md: where reads and writes go (R51, R53), and `load` (R57). -/

namespace Sys2Proof.Machine

/-! The first claiming device. -/

/-- `readDevices_some` read the other way: the first claimant answers (R52). -/
theorem readDevices_first_claimant {pre post : List Device} {d : Device} {a : Addr}
    (hpre : ∀ e ∈ pre, e.handles a = false) (hd : d.handles a = true) :
    readDevices (pre ++ d :: post) a = some ((d.read a).1, pre ++ (d.read a).2 :: post) := by
  induction pre with
  | nil => simp [readDevices, hd]
  | cons e pre ih =>
    obtain ⟨he, hrest⟩ := List.forall_mem_cons.mp hpre
    simp [readDevices, he, ih hrest]

/-- `writeDevices_some` read the other way: the first claimant takes the write (R52). -/
theorem writeDevices_first_claimant {pre post : List Device} {d : Device} {a : Addr} (v : Byte)
    (hpre : ∀ e ∈ pre, e.handles a = false) (hd : d.handles a = true) :
    writeDevices (pre ++ d :: post) a v = some (pre ++ d.write a v :: post) := by
  induction pre with
  | nil => simp [writeDevices, hd]
  | cons e pre ih =>
    obtain ⟨he, hrest⟩ := List.forall_mem_cons.mp hpre
    simp [writeDevices, he, ih hrest]

/-- Where some device claims the address, the first one answers the read and RAM is not looked at. -/
theorem read_of_first_claimant {b : Bus} {pre post : List Device} {d : Device} {a : Addr}
    (hb : b.devices = pre ++ d :: post) (hpre : ∀ e ∈ pre, e.handles a = false)
    (hd : d.handles a = true) :
    b.read a = ((d.read a).1, { b with devices := pre ++ (d.read a).2 :: post }) := by
  simp only [Bus.read, hb, readDevices_first_claimant hpre hd]

/-- Where some device claims the address, the first one takes the write and RAM is not written. -/
theorem write_of_first_claimant {b : Bus} {pre post : List Device} {d : Device} {a : Addr}
    (v : Byte) (hb : b.devices = pre ++ d :: post) (hpre : ∀ e ∈ pre, e.handles a = false)
    (hd : d.handles a = true) :
    b.write a v = { b with devices := pre ++ d.write a v :: post } := by
  simp only [Bus.write, hb, writeDevices_first_claimant v hpre hd]

/-! No claiming device. -/

theorem claimed_eq_false_iff {b : Bus} {a : Addr} :
    b.claimed a = false ↔ ∀ d ∈ b.devices, d.handles a = false := by
  simp [Bus.claimed]

theorem isRam_iff {b : Bus} {a : Addr} :
    b.isRam a = true ↔ b.claimed a = false ∧ a.toNat < b.ramSize := by
  simp [Bus.isRam]

/-- A byte written to plain RAM stands there, in a RAM in canonical form (R53). -/
theorem write_ramByte_same {b : Bus} {a : Addr} (v : Byte) (hwf : b.mem.wf = true)
    (h : b.isRam a = true) : (b.write a v).ramByte a.toNat = v := by
  rw [write_of_isRam v h]
  exact read_write_same hwf a.toNat v

/-! A run of writes. -/

/-- A run of writes leaves every address outside the run alone, whatever the list. -/
theorem read_writeAll_outside (m : Memory) (a : Nat) (vs : List Byte) {k : Nat}
    (h : k < a ∨ a + vs.length ≤ k) : (m.writeAll a vs).read k = m.read k := by
  induction vs generalizing m a with
  | nil => rfl
  | cons v vs ih =>
    rw [List.length_cons] at h
    calc ((m.write a v).writeAll (a + 1) vs).read k
        = (m.write a v).read k := ih _ _ (by omega)
      _ = m.read k := read_write_other m v (by omega)

/-- After a run of writes each byte of the run stands at its place: a later write of the run does not
reach an earlier byte. -/
theorem read_writeAll_inside {m : Memory} (hm : m.wf = true) (a : Nat) {vs : List Byte} {k : Nat}
    {v : Byte} (h : vs[k]? = some v) : (m.writeAll a vs).read (a + k) = v := by
  induction vs generalizing m a k with
  | nil => simp at h
  | cons u vs ih =>
    cases k with
    | zero =>
      obtain rfl : u = v := by simpa using h
      calc ((m.write a u).writeAll (a + 1) vs).read a
          = (m.write a u).read a := read_writeAll_outside _ _ _ (by omega)
        _ = u := read_write_same hm a u
    | succ k =>
      have hshift : a + (k + 1) = a + 1 + k := by omega
      rw [hshift]
      exact ih (write_wf a u hm) (a + 1) (by simpa using h)

/-! `load`. -/

/-- Data that ends inside RAM is written to RAM alone (R57). -/
theorem load_of_fits {b : Bus} {start : Addr} {data : List Byte}
    (h : start.toNat + data.length ≤ b.ramSize) :
    b.load start data = .ok { b with mem := b.mem.writeAll start.toNat data } := if_pos h

/-- Data that passes the end of RAM is refused whole (R57). -/
theorem load_of_overruns {b : Bus} {start : Addr} {data : List Byte}
    (h : b.ramSize < start.toNat + data.length) : b.load start data = .error .outOfRange :=
  if_neg (Nat.not_le.mpr h)

/-- Settles O15: the first claimant's answer, then the RAM and the open-bus case of an unclaimed
address. -/
theorem busReadRoutes : Obligations.BusReadRoutes := by
  intro b a
  refine ⟨fun pre d post => read_of_first_claimant, fun hno hlt => ?_, fun hno hge => ?_⟩
  · exact read_of_isRam (isRam_iff.mpr ⟨claimed_eq_false_iff.mpr hno, hlt⟩)
  · exact read_of_openBus (claimed_eq_false_iff.mpr hno) hge

/-- Settles O16: the first claimant takes the write; an unclaimed address is a byte of RAM, by read
after write and the frame of a write, or open bus. -/
theorem busWriteRoutes : Obligations.BusWriteRoutes := by
  intro b a v
  refine ⟨fun pre d post => write_of_first_claimant v, fun hno hlt => ?_, fun hno hge => ?_⟩
  · have hfree := claimed_eq_false_iff.mpr hno
    have hram := isRam_iff.mpr ⟨hfree, hlt⟩
    exact ⟨write_devices_unclaimed v hfree, write_ramSize b a v,
      fun hwf => write_ramByte_same v hwf hram, fun k hk => write_ramByte_other b a v hk⟩
  · exact write_of_openBus v (claimed_eq_false_iff.mpr hno) hge

/-- Settles O20: what the run of writes that `load` makes does inside and outside the run. -/
theorem loadCopiesOrFails : Obligations.LoadCopiesOrFails := by
  intro b start data hwf
  refine ⟨fun hfits => ⟨_, load_of_fits hfits, rfl, rfl, ?_, ?_⟩, load_of_overruns⟩
  · exact fun k v hv => read_writeAll_inside hwf start.toNat hv
  · exact fun k hk => read_writeAll_outside b.mem start.toNat data hk

end Sys2Proof.Machine

/-! PROOFS of the family 30_encoding.md: the bytes R100 attests, and the illegal opcodes (R96). -/

namespace Sys2Proof

/-! The decoder on an instruction's own bytes. -/

/-- What `tableEntry` says of the dispatch entry, said of the decoder: it takes exactly the bytes the
encoder makes and leaves the others (R90, R93). -/
theorem decode_encode_append (i : Instr) (rest : List Byte) :
    decode (encode i ++ rest) = .ok (i, rest) := by
  obtain ⟨e, hdispatch, -, -, -, -, -, hassemble⟩ := tableEntry i
  simp only [encode, List.cons_append, decode, hdispatch, hassemble]

/-- Settles O1: each row's bytes are the encoding of its instruction. -/
theorem attestedBytesDecode : Obligations.AttestedBytesDecode :=
  ⟨decode_encode_append (.ldaImmediate 0x41#8) [],
    decode_encode_append (.staAbsolute 0xF001#16) [],
    decode_encode_append .brk [],
    decode_encode_append (.jsr 0x9000#16) [],
    decode_encode_append (.incAbsolute 0x0200#16) [],
    decode_encode_append (.ldaAbsolute 0x0200#16) [],
    decode_encode_append .rts [],
    decode_encode_append (.adcImmediate 0x50#8) [],
    decode_encode_append (.beq 0x02#8) []⟩

/-! The illegal opcodes. -/

open Says

/-- A byte has no entry exactly when no row of the table has it as its opcode. -/
theorem dispatch_eq_none_iff (op : Byte) :
    dispatch op = none ↔ op ∉ dispatchTable.map DispatchEntry.opcode := by
  simp [dispatch]

/-- A list of bytes as a set: bit `b` says whether the byte `b` is in it. A statement about all 256
bytes is then one equation of bit vectors. -/
def byteSet : List Byte → BitVec 256
  | [] => 0#256
  | b :: bs => BitVec.twoPow 256 b.toNat ||| byteSet bs

theorem byteSet_append (bs cs : List Byte) : byteSet (bs ++ cs) = byteSet bs ||| byteSet cs := by
  induction bs with
  | nil => simp [byteSet]
  | cons b bs ih => simp [byteSet, ih, BitVec.or_assoc]

theorem mem_iff_getLsbD_byteSet (op : Byte) (bs : List Byte) :
    op ∈ bs ↔ (byteSet bs).getLsbD op.toNat = true := by
  induction bs with
  | nil => simp [byteSet]
  | cons b bs ih =>
    have hlt : b.toNat < 256 := b.isLt
    simp [byteSet, ih, hlt, BitVec.toNat_inj, @eq_comm _ op b]

/-- The list of R96 is the complement of the opcodes of R95; each part of the two lists is evaluated on
its own. -/
theorem byteSet_illegalBytes :
    byteSet illegalBytes = ~~~byteSet (dispatchTable.map DispatchEntry.opcode) := by
  simp only [dispatchTable, illegalBytes, List.map_append, byteSet_append]
  decide

theorem mem_illegalBytes_iff (op : Byte) :
    op ∈ illegalBytes ↔ op ∉ dispatchTable.map DispatchEntry.opcode := by
  have hlt : op.toNat < 256 := op.isLt
  rw [mem_iff_getLsbD_byteSet, mem_iff_getLsbD_byteSet, byteSet_illegalBytes]
  simp [hlt]

/-- The list of R96 stands in ascending order, so no byte is in it twice. -/
theorem illegalBytes_nodup : illegalBytes.Nodup := by
  have hascending : illegalBytes.IsChain (· < ·) := by simp [illegalBytes]
  exact hascending.pairwise.imp BitVec.ne_of_lt

/-- The bytes without a dispatch entry are those R96 lists. -/
theorem dispatch_eq_none_iff_mem_illegalBytes (op : Byte) :
    dispatch op = none ↔ op ∈ illegalBytes :=
  (dispatch_eq_none_iff op).trans (mem_illegalBytes_iff op).symm

end Sys2Proof

namespace Sys2Proof.Machine
open Says

/-- Where the byte at PC has no entry, the step is the IllegalOpcode failure of that byte (R270). -/
theorem step_of_dispatch_none {s : State} (h : dispatch (s.bus.peek s.pc) = none) :
    step s = .fault (.illegalOpcode (s.bus.peek s.pc)) :=
  congrArg StepReport.outcome (hostStep_illegal h)

/-- Where the byte at PC has an entry, the step answers a next state (R37, R120). -/
theorem step_of_dispatch_some {s : State} {e : DispatchEntry}
    (h : dispatch (s.bus.peek s.pc) = some e) : ∃ t, step s = .next t := by
  obtain ⟨t, -, hstep⟩ := hostStep_legal h
  exact ⟨t, congrArg StepReport.outcome hstep⟩

/-- Settles O4: the list of R96 is exactly the bytes without an entry, and whether the byte at PC has
one decides the step. -/
theorem illegalOpcodesFailTheStep : Obligations.IllegalOpcodesFailTheStep := by
  refine ⟨rfl, illegalBytes_nodup, dispatch_eq_none_iff_mem_illegalBytes,
    fun s => ⟨fun hmem => ?_, fun hnotMem => ?_⟩⟩
  · exact step_of_dispatch_none ((dispatch_eq_none_iff_mem_illegalBytes _).mpr hmem)
  · have hentry : dispatch (s.bus.peek s.pc) ≠ none :=
      mt (dispatch_eq_none_iff_mem_illegalBytes _).mp hnotMem
    obtain ⟨e, he⟩ := Option.ne_none_iff_exists'.mp hentry
    exact step_of_dispatch_some he

end Sys2Proof.Machine

/-! PROOFS of the family 40_addressing.md: fetches (R121), the indirect pointer (R123), the stack
(R140, R141) and the flag writes (R143, R144). -/

namespace Sys2Proof.Machine
open Says

/-! Words and bytes as numbers. -/

theorem toNat_mkWord (hi lo : Byte) : (mkWord hi lo).toNat = lo.toNat + 256 * hi.toNat := by
  rw [mkWord, BitVec.toNat_append, ← Nat.shiftLeft_add_eq_or_of_lt lo.isLt, Nat.shiftLeft_eq]
  omega

theorem toNat_loByte (w : Addr) : (loByte w).toNat = w.toNat % 256 := by
  simp [loByte]

theorem toNat_hiByte (w : Addr) : (hiByte w).toNat = w.toNat / 256 := by
  have hword := toNat_mkWord (hiByte w) (loByte w)
  rw [mkWord_hi_lo, toNat_loByte] at hword
  omega

theorem toNat_stackAddr (sp : Byte) : (stackAddr sp).toNat = 256 + sp.toNat := by
  rw [stackAddr, toNat_mkWord]
  simp [Nat.add_comm]

theorem toNat_byte_pred (v : Byte) : (v - 1#8).toNat = (v.toNat + 255) % 256 := by
  simp [BitVec.toNat_sub, Nat.add_comm]

/-! What one bus access keeps of memory. -/

/-- After one bus read every byte of memory is as before (R64). -/
theorem keepsMemory_of_read {s t : State} {a : Addr} (h : t.bus = (s.bus.read a).2) :
    KeepsMemoryBut [] s t := by
  refine ⟨fun k _ => ?_, fun c _ hc => ?_, fun c => ?_, ?_⟩
  · simp [h]
  · simp [h, peek_unclaimed, hc]
  · simp [h]
  · simp [h]

/-- After one bus write every byte of memory but the stored one is as before (R53). -/
theorem keepsMemory_of_write {s t : State} {a : Addr} {v : Byte} (h : t.bus = s.bus.write a v) :
    KeepsMemoryBut [a] s t := by
  have hram : ∀ k, k ≠ a.toNat → t.bus.ramByte k = s.bus.ramByte k :=
    fun k hk => h ▸ write_ramByte_other s.bus a v hk
  refine ⟨fun k hk => hram k (hk a (by simp)), fun c hc hfree => ?_, fun c => ?_, ?_⟩
  · have hne : c.toNat ≠ a.toNat := fun heq => hc (by simp [BitVec.toNat_inj.mp heq])
    have hfree' : t.bus.claimed c = false := by simpa [h] using hfree
    rw [peek_unclaimed hfree', peek_unclaimed hfree, hram _ hne, h, write_ramSize]
  · simp [h]
  · simp [h]

/-! The flag writes. -/

theorem setFlag_writesOnlyFlags (s : State) (g : Flag) (e : Bool) :
    WritesOnlyFlags [g] s (s.setFlag g e) := by
  refine ⟨by simp, fun f hf hu => ?_⟩
  have hne : f ≠ g := by simpa using hf
  simp [hu, hne]

theorem setZN_writesOnlyFlags (s : State) (v : Byte) :
    WritesOnlyFlags [.zero, .negative] s (s.setZN v) := by
  refine ⟨by simp, fun f hf hu => ?_⟩
  obtain ⟨hz, hn⟩ : f ≠ .zero ∧ f ≠ .negative := by simpa using hf
  simp [hu, hz, hn]

theorem setZN_zeroNegativeOf (s : State) (v : Byte) : ZeroNegativeOf v (s.setZN v) := by
  refine ⟨?_, ?_⟩
  · have hzero : (v == 0x00#8) = decide (v.toNat = 0) := by
      rw [Bool.eq_iff_iff, beq_iff_eq, decide_eq_true_iff]
      exact BitVec.toNat_inj.symm
    simp [hzero]
  · simp [BitVec.msb_eq_decide]

/-! The pointer reads. -/

/-- The partner address of `ReadWordBug` as its number names it (R123). -/
theorem mkWord_hiByte_loByte_succ {a partner : Addr}
    (h : partner.toNat = a.toNat / 256 * 256 + (a.toNat % 256 + 1) % 256) :
    mkWord (hiByte a) (loByte a + 1#8) = partner := by
  apply BitVec.eq_of_toNat_eq
  rw [h, toNat_mkWord, BitVec.toNat_add, toNat_loByte, toNat_hiByte]
  simp only [BitVec.toNat_ofNat]
  omega

/-- Inside a page the partner address is the next one, so `ReadWordBug` is `ReadWord` (R122,
R123). -/
theorem readWordBug_eq_readWord (s : State) {a : Addr} (h : a.toNat % 256 ≠ 255) :
    s.readWordBug a = s.readWord a := by
  have hnext : mkWord (hiByte a) (loByte a + 1#8) = a + 1#16 := by
    apply mkWord_hiByte_loByte_succ
    have hlt := a.isLt
    simp only [BitVec.toNat_add, BitVec.toNat_ofNat]
    omega
  rw [State.readWordBug, hnext, State.readWord]

/-- Settles O24: one bus read at PC and the increment of PC modulo 65536; the word has the byte
fetched first as its low byte. -/
theorem fetchReadsAtPc : Obligations.FetchReadsAtPc := by
  intro s
  refine ⟨rfl, rfl, ?_, rfl, ?_, ⟨rfl, rfl⟩, ?_, rfl⟩
  · exact BitVec.toNat_add s.pc 1#16
  · simp [KeepsRegisters]
  · exact toNat_mkWord s.fetchByte.2.fetchByte.1 s.fetchByte.1

/-- Settles O25: the partner's number names the address of the second read, which inside a page is
the next address. -/
theorem indirectJumpPointerStaysInPage : Obligations.IndirectJumpPointerStaysInPage := by
  intro s a partner hpartner
  obtain rfl := mkWord_hiByte_loByte_succ hpartner
  exact ⟨toNat_mkWord _ _, rfl, fun hin => readWordBug_eq_readWord s hin⟩

/-- Settles O30: each number names the stack address of its access, one write or one read with its
frame. -/
theorem pushAndPull : Obligations.PushAndPull := by
  intro s v a
  refine ⟨fun ha => ?_, fun ha => ?_⟩
  · obtain rfl : a = stackAddr s.sp := BitVec.eq_of_toNat_eq (by rw [ha, toNat_stackAddr])
    exact ⟨rfl, toNat_byte_pred s.sp, rfl, by simp [KeepsRegisters], ⟨rfl, rfl⟩,
      keepsMemory_of_write rfl⟩
  · have hsp : (s.sp + 1#8).toNat = (s.sp.toNat + 1) % 256 := BitVec.toNat_add s.sp 1#8
    obtain rfl : a = stackAddr (s.sp + 1#8) :=
      BitVec.eq_of_toNat_eq (by rw [ha, toNat_stackAddr, hsp])
    exact ⟨rfl, rfl, hsp, rfl, by simp [KeepsRegisters], ⟨rfl, rfl⟩, keepsMemory_of_read rfl⟩

/-- Settles O31: each write sets P alone; the rest is the flags read back after a single-flag write
and after `SetZN`. -/
theorem flagWrites : Obligations.FlagWrites := by
  intro s v g e
  exact ⟨rfl, rfl, setFlag_writesOnlyFlags s g e, fun hg => by simp [hg], rfl,
    setZN_zeroNegativeOf s v, setZN_writesOnlyFlags s v⟩

end Sys2Proof.Machine

/-! PROOFS of the family 41_load_store_transfer.md: loads (R150 to R152), stores (R153 to R155) and
transfers (R156 to R161). -/

namespace Sys2Proof.Machine
open Says

/-! What the addressing modes keep of memory. -/

@[simp] theorem operand_claimed (s : State) (o : Operand) (c : Addr) :
    (operand o s).2.bus.claimed c = s.bus.claimed c := by
  cases o <;> simp [operand]

/-- Accesses that leave RAM, its size and the claims alone leave every byte of memory as before. -/
theorem keepsMemory_of_mem_eq {s t : State} (hmem : t.bus.mem = s.bus.mem)
    (hsize : t.bus.ramSize = s.bus.ramSize)
    (hclaimed : ∀ c, t.bus.claimed c = s.bus.claimed c) : KeepsMemoryBut [] s t := by
  have hram : ∀ k, t.bus.ramByte k = s.bus.ramByte k := fun k => by simp [Bus.ramByte, hmem]
  refine ⟨fun k _ => hram k, fun c _ hfree => ?_, hclaimed, hsize⟩
  rw [peek_unclaimed ((hclaimed c).trans hfree), peek_unclaimed hfree, hsize, hram]

/-- What is kept all through a first part is kept through both but for what the second part stores. -/
theorem keepsMemory_trans {s t u : State} {stored : List Addr} (hst : KeepsMemoryBut [] s t)
    (htu : KeepsMemoryBut stored t u) : KeepsMemoryBut stored s u := by
  obtain ⟨hram, hpeek, hclaimed, hsize⟩ := hst
  obtain ⟨hram', hpeek', hclaimed', hsize'⟩ := htu
  refine ⟨fun k hk => ?_, fun c hc hfree => ?_, fun c => ?_, hsize'.trans hsize⟩
  · exact (hram' k hk).trans (hram k (by simp))
  · exact (hpeek' c hc ((hclaimed c).trans hfree)).trans (hpeek c (by simp) hfree)
  · exact (hclaimed' c).trans (hclaimed c)

/-- Computing an effective address stores nothing. -/
theorem address_keepsMemory (m : MemMode) (s : State) : KeepsMemoryBut [] s (address m s).2 :=
  keepsMemory_of_mem_eq (address_mem s m) (address_ramSize s m) (address_claimed s m)

/-- Where the bus has made the accesses of an operand and no other, every byte of memory is as before
(R137). -/
theorem keepsMemory_of_operand {s t : State} {o : Operand} (h : t.bus = (operand o s).2.bus) :
    KeepsMemoryBut [] s t :=
  keepsMemory_of_mem_eq (by simp [h]) (by simp [h]) (by simp [h])

/-! The shape of each kind of instruction, from the state its arm answers. -/

/-- An instruction reads its operand as the mode says when the state it answers has the operand's bus
and page_crossed, and branch_taken as before. -/
theorem reads_of_exec {op : Byte} {i : Instr} {o : Operand}
    {effect : Byte → State → State → Prop} {result : State → State} (hop : i.opcode = op)
    (hadder : (dispatch op).map (fun e => e.pageCrossAdder) = some (Indexed o))
    (hexec : ∀ s, exec i s = .next (result s))
    (heffect : ∀ s, effect (operand o s).1 s (result s))
    (hbus : ∀ s, (result s).bus = (operand o s).2.bus)
    (hpage : ∀ s, (result s).pageCrossed = (operand o s).2.pageCrossed)
    (hbranch : ∀ s, (result s).branchTaken = s.branchTaken) : Reads op i o effect :=
  ⟨hop, hadder, fun s => ⟨result s, hexec s, heffect s, hbus s, hpage s, hbranch s,
    keepsMemory_of_operand (hbus s)⟩⟩

/-- `SetZN(v)` on a state that differs from `s` in the registers `changed`, and not in P, writes Z and N
of v and keeps the rest of the register file. -/
theorem setZN_after_register_write {s u : State} {changed : List Reg} (v : Byte) (hp : u.p = s.p)
    (hregisters : KeepsRegisters changed s u) :
    ZeroNegativeOf v (u.setZN v) ∧ KeepsRegisters changed s (u.setZN v) ∧
      WritesOnlyFlags [.zero, .negative] s (u.setZN v) := by
  have hflag : ∀ f, u.flag f = s.flag f := fun f => congrArg (flagOf · f) hp
  obtain ⟨hunused, hothers⟩ := setZN_writesOnlyFlags u v
  exact ⟨setZN_zeroNegativeOf u v, hregisters, hunused,
    fun f hf hu => (hothers f hf hu).trans (hflag f)⟩

/-! Loads. -/

section Loads
variable {op : Byte} {i : Instr} {o : Operand} (hop : i.opcode = op)
  (hadder : (dispatch op).map (fun e => e.pageCrossAdder) = some (Indexed o))
include hop hadder

/-- Every instruction whose action is `loadA` does what R150 says. -/
theorem reads_of_loadA (hexec : ∀ s, exec i s = .next (loadA o s)) :
    Reads op i o (fun m s t => t.a = m ∧ ZeroNegativeOf m t ∧ KeepsRegisters [.a] s t ∧
      WritesOnlyFlags [.zero, .negative] s t) :=
  reads_of_exec hop hadder hexec
    (fun s => ⟨rfl, setZN_after_register_write _ (operand_p s o) (by simp [KeepsRegisters])⟩)
    (fun _ => rfl) (fun _ => rfl) (operand_branchTaken · o)

/-- Every instruction whose action is `loadX` does what R151 says. -/
theorem reads_of_loadX (hexec : ∀ s, exec i s = .next (loadX o s)) :
    Reads op i o (fun m s t => t.x = m ∧ ZeroNegativeOf m t ∧ KeepsRegisters [.x] s t ∧
      WritesOnlyFlags [.zero, .negative] s t) :=
  reads_of_exec hop hadder hexec
    (fun s => ⟨rfl, setZN_after_register_write _ (operand_p s o) (by simp [KeepsRegisters])⟩)
    (fun _ => rfl) (fun _ => rfl) (operand_branchTaken · o)

/-- Every instruction whose action is `loadY` does what R152 says. -/
theorem reads_of_loadY (hexec : ∀ s, exec i s = .next (loadY o s)) :
    Reads op i o (fun m s t => t.y = m ∧ ZeroNegativeOf m t ∧ KeepsRegisters [.y] s t ∧
      WritesOnlyFlags [.zero, .negative] s t) :=
  reads_of_exec hop hadder hexec
    (fun s => ⟨rfl, setZN_after_register_write _ (operand_p s o) (by simp [KeepsRegisters])⟩)
    (fun _ => rfl) (fun _ => rfl) (operand_branchTaken · o)

end Loads

/-- Settles O32: each of the eight arms is `loadA` of its mode's operand. -/
theorem loadAccumulator : Obligations.LoadAccumulator := by
  refine ⟨?_, ?_, ?_, ?_, ?_, ?_, ?_, ?_⟩ <;>
    exact fun _ => reads_of_loadA rfl rfl fun _ => rfl

/-- Settles O33: each of the five arms is `loadX` of its mode's operand. -/
theorem loadX_reads : Obligations.LoadX := by
  refine ⟨?_, ?_, ?_, ?_, ?_⟩ <;> exact fun _ => reads_of_loadX rfl rfl fun _ => rfl

/-- Settles O34: each of the five arms is `loadY` of its mode's operand. -/
theorem loadY_reads : Obligations.LoadY := by
  refine ⟨?_, ?_, ?_, ?_, ?_⟩ <;> exact fun _ => reads_of_loadY rfl rfl fun _ => rfl

/-! Stores. -/

/-- Every instruction whose action is `storeTo` writes its byte once, at the effective address, and
nothing else (R138). -/
theorem stores_of_storeTo {op : Byte} {i : Instr} {m : MemMode} {v : State → Byte}
    (hop : i.opcode = op) (hadder : (dispatch op).map (fun e => e.pageCrossAdder) = some false)
    (hexec : ∀ s, exec i s = .next (storeTo m (v s) s)) : Stores op i m v := by
  refine ⟨hop, hadder, fun s => ⟨_, hexec s, rfl, storeTo_p s m (v s), ?_, ?_, rfl,
    storeTo_branchTaken s m (v s)⟩⟩
  · simp [KeepsRegisters]
  · exact keepsMemory_trans (address_keepsMemory m s) (keepsMemory_of_write rfl)

/-- Settles O35: each of the thirteen arms is `storeTo` of its register at its mode's address. -/
theorem storesWriteOneByte : Obligations.StoresWriteOneByte := by
  refine ⟨?_, ?_, ?_, ?_, ?_, ?_, ?_, ?_, ?_, ?_, ?_, ?_, ?_⟩ <;>
    exact fun _ => stores_of_storeTo rfl rfl fun _ => rfl

/-! Transfers. -/

/-- Settles O36: five transfers write one register and then Z and N of the byte written; TXS writes SP
alone. -/
theorem transfersCopyRegisters : Obligations.TransfersCopyRegisters := by
  refine ⟨⟨rfl, fun s => ?tax⟩, ⟨rfl, fun s => ?tay⟩, ⟨rfl, fun s => ?tsx⟩, ⟨rfl, fun s => ?txa⟩,
    ⟨rfl, fun s => ?tya⟩, ⟨rfl, fun s => ?txs⟩⟩
  case tax | tay | tsx | txa | tya =>
    exact ⟨_, rfl, ⟨rfl, setZN_after_register_write _ rfl (by simp [KeepsRegisters])⟩,
      rfl, rfl, rfl⟩
  case txs => exact ⟨_, rfl, ⟨rfl, by simp [KeepsRegisters], rfl⟩, rfl, rfl, rfl⟩

end Sys2Proof.Machine

/-! PROOFS of the family 42_arithmetic.md: ADC (R170) and SBC (R171). -/

namespace Sys2Proof.Machine
open Says

/-! What an addition or subtraction writes. -/

/-- `t` holds the result `r` of an addition or subtraction begun in `s`: A, C and V are its, Z and N are
those of the new A, and the rest of the register file is kept (R170, R171). -/
structure AluWritten (r : AluResult) (s t : State) : Prop where
  a_eq : t.a = r.value
  carry_eq : t.flag .carry = r.carry
  overflow_eq : t.flag .overflow = r.overflow
  zeroNegative : ZeroNegativeOf t.a t
  registers : KeepsRegisters [.a] s t
  flags : WritesOnlyFlags [.carry, .overflow, .zero, .negative] s t

/-- `setAlu` writes its result over what reading the operand leaves. -/
theorem setAlu_operand_written (o : Operand) (r : AluResult) (s : State) :
    AluWritten r s ((operand o s).2.setAlu r) where
  a_eq := rfl
  carry_eq := by simp [State.setAlu]
  overflow_eq := by simp [State.setAlu]
  zeroNegative := setZN_zeroNegativeOf _ r.value
  registers := by simp [State.setAlu, KeepsRegisters]
  flags := by
    refine ⟨by simp [State.setAlu], fun f hf hu => ?_⟩
    obtain ⟨hc, hv, hz, hn⟩ : f ≠ .carry ∧ f ≠ .overflow ∧ f ≠ .zero ∧ f ≠ .negative := by
      simpa using hf
    simp [State.setAlu, hu, hc, hv, hz, hn]

section Shape
variable {op : Byte} {i : Instr} {o : Operand} {effect : Byte → State → State → Prop}
  (hop : i.opcode = op)
  (hadder : (dispatch op).map (fun e => e.pageCrossAdder) = some (Indexed o))
include hop hadder

/-- An instruction that reads its operand and then writes the result `alu` computes from the operand
and the state before it. -/
theorem reads_of_setAlu (alu : State → Byte → AluResult)
    (hexec : ∀ s, exec i s = .next ((operand o s).2.setAlu (alu s (operand o s).1)))
    (heffect : ∀ m s t, AluWritten (alu s m) s t → effect m s t) : Reads op i o effect :=
  reads_of_exec hop hadder hexec
    (fun s => heffect _ s _ (setAlu_operand_written o _ s))
    (fun _ => rfl) (fun _ => rfl) (operand_branchTaken · o)

/-- Every instruction whose action is `addTo` has each effect that an ADC's result written over the
state gives; reading the operand leaves the A, D and C it adds to (R170). -/
theorem reads_of_addTo (hexec : ∀ s, exec i s = .next (addTo o s))
    (heffect : ∀ m s t,
      AluWritten (addWithCarry (s.flag .decimal) s.a m (s.flag .carry)) s t → effect m s t) :
    Reads op i o effect :=
  reads_of_setAlu hop hadder (fun s m => addWithCarry (s.flag .decimal) s.a m (s.flag .carry))
    (fun s => by rw [hexec s, addTo, operand_a, operand_flag, operand_flag]) heffect

/-- Every instruction whose action is `subFrom` has each effect that an SBC's result written over the
state gives; reading the operand leaves the A, D and C it subtracts from (R171). -/
theorem reads_of_subFrom (hexec : ∀ s, exec i s = .next (subFrom o s))
    (heffect : ∀ m s t,
      AluWritten (subWithBorrow (s.flag .decimal) s.a m (s.flag .carry)) s t → effect m s t) :
    Reads op i o effect :=
  reads_of_setAlu hop hadder (fun s m => subWithBorrow (s.flag .decimal) s.a m (s.flag .carry))
    (fun s => by rw [hexec s, subFrom, operand_a, operand_flag, operand_flag]) heffect

end Shape

/-! The decimal encoding and the overflow flag. -/

/-- Up to 99 the encoding fits the byte (R173). -/
theorem toNat_bcdEnc {r : Nat} (h : r ≤ 99) : (bcdEnc r).toNat = r / 10 * 16 + r % 10 := by
  rw [bcdEnc, BitVec.toNat_ofNat]
  omega

/-- Masking with 0x80 tests bit 7. -/
theorem and_0x80_ne_zero (v : Byte) : (v &&& 0x80#8 != 0x00#8) = v.msb := by
  rw [show (0x80#8 : Byte) = BitVec.twoPow 8 7 from rfl, BitVec.and_twoPow,
    BitVec.msb_eq_getLsbD_last]
  cases v.getLsbD 7 <;> rfl

/-- The 8-bit sum is the sum of the bytes. -/
theorem ofNat_sum (a m : Byte) (c : Bool) :
    BitVec.ofNat 8 (a.toNat + m.toNat + bitNat c) = a + m + BitVec.ofNat 8 (num c) := by
  simp [BitVec.ofNat_add, bitNat, num]

/-- The 8-bit difference is the difference of the bytes. -/
theorem ofInt_binaryDifference (a m : Byte) (c : Bool) :
    BitVec.ofInt 8 (binaryDifference a m c) = a - m - BitVec.ofNat 8 (1 - num c) := by
  cases c <;> simp [binaryDifference, bitInt, num, sub_eq_add_neg, BitVec.ofInt_add,
    BitVec.ofInt_neg]

/-- ADC's V is bit 7 of (A xor r) and (M xor r): equal signs of A and M, and another of r (R170). -/
theorem addOverflow_eq_bit7 (a m : Byte) (c : Bool) {r : Byte}
    (hr : r = a + m + BitVec.ofNat 8 (num c)) :
    addOverflow a m c = ((a ^^^ r) &&& (m ^^^ r) &&& 0x80#8 != 0x00#8) := by
  rw [addOverflow, ofNat_sum, ← hr, and_0x80_ne_zero, BitVec.msb_and, BitVec.msb_xor,
    BitVec.msb_xor]
  cases a.msb <;> cases m.msb <;> cases r.msb <;> rfl

/-- SBC's V is bit 7 of (A xor M) and (A xor r): differing signs of A and M, and of A and r (R171). -/
theorem subOverflow_eq_bit7 (a m : Byte) (c : Bool) {r : Byte}
    (hr : r = a - m - BitVec.ofNat 8 (1 - num c)) :
    subOverflow a m c = ((a ^^^ m) &&& (a ^^^ r) &&& 0x80#8 != 0x00#8) := by
  rw [subOverflow, ofInt_binaryDifference, ← hr, and_0x80_ne_zero, BitVec.msb_and, BitVec.msb_xor,
    BitVec.msb_xor]
  cases a.msb <;> cases m.msb <;> cases r.msb <;> rfl

/-! The results. -/

/-- V is the binary path's in both modes (U1). -/
theorem addWithCarry_overflow (d : Bool) (a m : Byte) (c : Bool) :
    (addWithCarry d a m c).overflow = addOverflow a m c := by
  cases d <;> rfl

/-- V is the binary path's in both modes (D10). -/
theorem subWithBorrow_overflow (d : Bool) (a m : Byte) (c : Bool) :
    (subWithBorrow d a m c).overflow = subOverflow a m c := by
  cases d <;> rfl

theorem toNat_addBinary_value (a m : Byte) (c : Bool) :
    (addBinary a m c).value.toNat = (a.toNat + m.toNat + num c) % 256 :=
  BitVec.toNat_ofNat _ _

theorem toNat_addDecimal_value (a m : Byte) (c : Bool) {dsum : Nat}
    (h : dsum = bcd a + bcd m + num c) :
    (addDecimal a m c).value.toNat = dsum % 100 / 10 * 16 + dsum % 100 % 10 := by
  subst h
  exact toNat_bcdEnc (Nat.le_of_lt_succ (Nat.mod_lt _ (by decide)))

theorem binaryDifference_eq (a m : Byte) (c : Bool) :
    binaryDifference a m c = (a.toNat : Int) - m.toNat - (1 - (num c : Int)) := by
  cases c <;> rfl

theorem decimalDifference_eq (a m : Byte) (c : Bool) :
    decimalDifference a m c = (bcd a : Int) - bcd m - (1 - (num c : Int)) := by
  cases c <;> rfl

theorem toNat_subBinary_value (a m : Byte) (c : Bool) :
    ((subBinary a m c).value.toNat : Int) = binaryDifference a m c % 256 := by
  rw [subBinary, BitVec.toNat_ofInt]
  exact Int.toNat_of_nonneg (Int.emod_nonneg _ (by decide))

/-- Inside 0..99 a decimal SBC delivers the encoding of the adjusted difference (R171). -/
theorem toNat_subDecimal_value {a m : Byte} {c : Bool} {r : Int}
    (hr : r = adjustBorrow (decimalDifference a m c)) (hin : 0 ≤ r ∧ r ≤ 99) :
    ((subDecimal a m c).value.toNat : Int) = r / 10 * 16 + r % 10 := by
  obtain ⟨n, rfl⟩ := Int.eq_ofNat_of_zero_le hin.1
  have hn : n ≤ 99 := by omega
  simp only [subDecimal, ← hr, if_pos hin, Int.toNat_natCast, toNat_bcdEnc hn]
  rfl

/-- Outside 0..99 it delivers the free value (R171 corner case (e)). -/
theorem subDecimal_value_of_not_mem {a m : Byte} {c : Bool} {r : Int}
    (hr : r = adjustBorrow (decimalDifference a m c)) (hout : ¬ (0 ≤ r ∧ r ≤ 99)) :
    (subDecimal a m c).value = Config.decSbcInvalid a m c := by
  simp only [subDecimal, ← hr, if_neg hout]

/-- Settles O37: each of the eight arms is `addTo` of its mode's operand, and D selects the result
whose value and carry the two modes' clauses describe. -/
theorem addWithCarry_reads : Obligations.AddWithCarry := by
  unfold Obligations.AddWithCarry
  intro effect
  have heffect : ∀ m s t,
      AluWritten (addWithCarry (s.flag .decimal) s.a m (s.flag .carry)) s t → effect m s t := by
    rintro m s t ⟨ha, hc, hv, hzn, hregisters, hflags⟩
    refine ⟨fun hd => ?binary, fun hd dsum hsum => ?decimal, fun r hr => ?overflow, hzn,
      hregisters, hflags⟩
    case binary =>
      rw [hd] at ha hc
      exact ⟨ha ▸ toNat_addBinary_value _ _ _, hc⟩
    case decimal =>
      rw [hd] at ha hc
      exact ⟨ha ▸ toNat_addDecimal_value _ _ _ hsum, hsum ▸ hc⟩
    case overflow =>
      rw [hv, addWithCarry_overflow, addOverflow_eq_bit7 _ _ _ hr]
  refine ⟨?_, ?_, ?_, ?_, ?_, ?_, ?_, ?_⟩ <;>
    exact fun _ => reads_of_addTo rfl rfl (fun _ => rfl) heffect

/-- Settles O38: each of the eight arms is `subFrom` of its mode's operand, and D selects the result
whose value and carry the two modes' clauses describe. -/
theorem subtractWithBorrow : Obligations.SubtractWithBorrow := by
  unfold Obligations.SubtractWithBorrow
  intro effect
  have heffect : ∀ m s t,
      AluWritten (subWithBorrow (s.flag .decimal) s.a m (s.flag .carry)) s t → effect m s t := by
    rintro m s t ⟨ha, hc, hv, hzn, hregisters, hflags⟩
    refine ⟨fun hd bdiff hdiff => ?binary, fun hd d r hdiff hr => ?decimal, fun r hr => ?overflow,
      hzn, hregisters, hflags⟩
    case binary =>
      obtain rfl := hdiff.trans (binaryDifference_eq _ _ _).symm
      rw [hd] at ha hc
      exact ⟨ha ▸ toNat_subBinary_value _ _ _, hc⟩
    case decimal =>
      obtain rfl := hdiff.trans (decimalDifference_eq _ _ _).symm
      rw [hd] at ha hc
      exact ⟨hc, fun hin => ha ▸ toNat_subDecimal_value hr hin,
        fun hout => ha.trans (subDecimal_value_of_not_mem hr hout)⟩
    case overflow =>
      rw [hv, subWithBorrow_overflow, subOverflow_eq_bit7 _ _ _ hr]
  refine ⟨?_, ?_, ?_, ?_, ?_, ?_, ?_, ?_⟩ <;>
    exact fun _ => reads_of_subFrom rfl rfl (fun _ => rfl) heffect

end Sys2Proof.Machine

/-! PROOFS of the family 43_logical_bit.md: AND, ORA, EOR (R180 to R182) and BIT (R183). -/

namespace Sys2Proof.Machine
open Says

/-- BIT's flags over what reading the operand leaves, each read back after the writes of the other two
(R183). -/
theorem testBits_flag (o : Operand) (s : State) (f : Flag) :
    (testBits o s).flag f = (decide (f = .unused) ||
      if f = .overflow then (operand o s).1.getLsbD 6
      else if f = .negative then (operand o s).1.msb
      else if f = .zero then s.a &&& (operand o s).1 == 0x00#8
      else s.flag f) := by
  cases f <;> simp [testBits]

/-- BIT writes Z, N and V and no other flag (R183). -/
theorem testBits_writesOnlyFlags (o : Operand) (s : State) :
    WritesOnlyFlags [.zero, .negative, .overflow] s (testBits o s) := by
  refine ⟨by simp [testBits_flag], fun f hf hu => ?_⟩
  obtain ⟨hz, hn, hv⟩ : f ≠ .zero ∧ f ≠ .negative ∧ f ≠ .overflow := by simpa using hf
  simp [testBits_flag, hu, hz, hn, hv]

section Logic
variable {op : Byte} {i : Instr} {o : Operand} (hop : i.opcode = op)
  (hadder : (dispatch op).map (fun e => e.pageCrossAdder) = some (Indexed o))
include hop hadder

/-- Every instruction whose action is `logicA f` combines A and its operand by `f`; reading the operand
leaves the A it combines (R180 to R182). -/
theorem reads_of_logicA {f : Byte → Byte → Byte} (hexec : ∀ s, exec i s = .next (logicA f o s)) :
    Reads op i o (fun m s t => t.a = f s.a m ∧ ZeroNegativeOf (f s.a m) t ∧
      KeepsRegisters [.a] s t ∧ WritesOnlyFlags [.zero, .negative] s t) := by
  have hlogic : ∀ s, logicA f o s =
      ((operand o s).2.setA (f s.a (operand o s).1)).setZN (f s.a (operand o s).1) :=
    fun s => by rw [logicA, operand_a]
  exact reads_of_exec hop hadder (fun s => (hexec s).trans (congrArg _ (hlogic s)))
    (fun s => ⟨rfl, setZN_after_register_write _ (operand_p s o) (by simp [KeepsRegisters])⟩)
    (fun _ => rfl) (fun _ => rfl) (operand_branchTaken · o)

/-- Every instruction whose action is `testBits` does what R183 says. -/
theorem reads_of_testBits (hexec : ∀ s, exec i s = .next (testBits o s)) :
    Reads op i o (fun m s t => t.flag .zero = decide (s.a &&& m = 0x00#8) ∧
      t.flag .negative = m.getLsbD 7 ∧ t.flag .overflow = m.getLsbD 6 ∧ KeepsRegisters [] s t ∧
      WritesOnlyFlags [.zero, .negative, .overflow] s t) := by
  refine reads_of_exec hop hadder hexec (fun s => ⟨?zero, ?negative, ?overflow, ?registers,
    testBits_writesOnlyFlags o s⟩) (fun _ => rfl) (fun _ => rfl) (operand_branchTaken · o)
  case zero => exact testBits_flag o s .zero
  case negative => simp [testBits_flag, BitVec.msb_eq_getLsbD_last]
  case overflow => exact testBits_flag o s .overflow
  case registers => simp [testBits, KeepsRegisters]

end Logic

/-- Settles O40: each of the 24 arms is `logicA` of its mode's operand, with the bitwise operation of
its mnemonic. -/
theorem logicCombinesWithAccumulator : Obligations.LogicCombinesWithAccumulator := by
  refine ⟨?_, ?_, ?_, ?_, ?_, ?_, ?_, ?_, ?_, ?_, ?_, ?_, ?_, ?_, ?_, ?_, ?_, ?_, ?_, ?_, ?_, ?_,
    ?_, ?_⟩ <;> exact fun _ => reads_of_logicA rfl rfl fun _ => rfl

/-- Settles O41: both arms are `testBits` of their mode's operand. -/
theorem bitTestsMemory : Obligations.BitTestsMemory :=
  ⟨fun _ => reads_of_testBits rfl rfl fun _ => rfl,
    fun _ => reads_of_testBits rfl rfl fun _ => rfl⟩

end Sys2Proof.Machine

/-! PROOFS of the family 44_shift_rotate.md: ASL, LSR, ROL and ROR of A and of memory (R190 to R193). -/

namespace Sys2Proof.Machine
open Says

/-! The four byte operations, each as the arithmetic of its rule. -/

/-- The byte operation `f`, given the old carry, computes the number `result` and the new carry
`newCarry`. -/
structure ShiftsByte (f : Bool → Byte → Byte × Bool) (result : Bool → Nat → Nat)
    (newCarry : Nat → Bool) : Prop where
  toNat_fst : ∀ c v, (f c v).1.toNat = result c v.toNat
  snd_eq : ∀ c v, (f c v).2 = newCarry v.toNat

theorem toNat_shiftLeft_one (v : Byte) : (v <<< 1).toNat = 2 * v.toNat % 256 := by
  rw [BitVec.toNat_shiftLeft, Nat.shiftLeft_eq, Nat.mul_comm]

theorem toNat_shiftRight_one (v : Byte) : (v >>> 1).toNat = v.toNat / 2 := by
  rw [BitVec.toNat_ushiftRight, Nat.shiftRight_eq_div_pow]

/-- Or-ing a bit into a place that is clear adds it. -/
theorem or_bit_eq_add {v : Byte} {k : Nat} (hclear : v.getLsbD k = false) (c : Bool) :
    (v ||| if c then BitVec.twoPow 8 k else 0#8) = v + if c then BitVec.twoPow 8 k else 0#8 := by
  refine (BitVec.add_eq_or_of_and_eq_zero _ _ ?_).symm
  cases c
  · simp
  · simp [BitVec.and_twoPow, hclear]

theorem toNat_rolByte_fst (c : Bool) (v : Byte) :
    (rolByte c v).1.toNat = (2 * v.toNat + num c) % 256 := by
  have hadd : (rolByte c v).1 = v <<< 1 + if c then 0x01#8 else 0x00#8 :=
    or_bit_eq_add (k := 0) (by simp) c
  rw [hadd, BitVec.toNat_add, toNat_shiftLeft_one]
  cases c <;> simp [num]

theorem toNat_rorByte_fst (c : Bool) (v : Byte) :
    (rorByte c v).1.toNat = v.toNat / 2 + 128 * num c := by
  have hadd : (rorByte c v).1 = v >>> 1 + if c then 0x80#8 else 0x00#8 :=
    or_bit_eq_add (k := 7) (by simp) c
  have hlt := v.isLt
  rw [hadd, BitVec.toNat_add, toNat_shiftRight_one]
  cases c <;> simp [num] <;> omega

theorem aslByte_shiftsByte :
    ShiftsByte (fun _ => aslByte) (fun _ v => 2 * v % 256) (fun v => decide (128 ≤ v)) :=
  ⟨fun _ => toNat_shiftLeft_one, fun _ => BitVec.msb_eq_decide⟩

theorem lsrByte_shiftsByte :
    ShiftsByte (fun _ => lsrByte) (fun _ v => v / 2) (fun v => decide (v % 2 = 1)) :=
  ⟨fun _ => toNat_shiftRight_one, fun _ v => Nat.testBit_zero v.toNat⟩

theorem rolByte_shiftsByte :
    ShiftsByte rolByte (fun c v => (2 * v + num c) % 256) (fun v => decide (128 ≤ v)) :=
  ⟨toNat_rolByte_fst, fun _ => BitVec.msb_eq_decide⟩

theorem rorByte_shiftsByte :
    ShiftsByte rorByte (fun c v => v / 2 + 128 * num c) (fun v => decide (v % 2 = 1)) :=
  ⟨toNat_rorByte_fst, fun _ v => Nat.testBit_zero v.toNat⟩

/-! What the two forms of a shift write. -/

/-- C of the pair `q` and then `SetZN` of its byte, over a state whose P is that of `s`, write C, Z and
N of `q` and keep every other flag. -/
theorem setFlag_carry_setZN_flags {s u : State} (hp : u.p = s.p) (q : Byte × Bool) :
    ((u.setFlag .carry q.2).setZN q.1).flag .carry = q.2 ∧
      ZeroNegativeOf q.1 ((u.setFlag .carry q.2).setZN q.1) ∧
      WritesOnlyFlags [.carry, .zero, .negative] s ((u.setFlag .carry q.2).setZN q.1) := by
  refine ⟨by simp, setZN_zeroNegativeOf _ q.1, by simp, fun f hf hu => ?_⟩
  obtain ⟨hc, hz, hn⟩ : f ≠ .carry ∧ f ≠ .zero ∧ f ≠ .negative := by simpa using hf
  have hkept : u.flag f = s.flag f := congrArg (flagOf · f) hp
  simp [hu, hc, hz, hn, hkept]

/-- A read-modify-write stores at its effective address only (R139). -/
theorem modifyAt_keepsMemory (m : MemMode) (g : Byte → Byte × Bool) (s : State) :
    KeepsMemoryBut [(address m s).1] s (modifyAt m g s).2 := by
  have hread : KeepsMemoryBut [] s ((address m s).2.busRead (address m s).1).2 :=
    keepsMemory_trans (address_keepsMemory m s) (keepsMemory_of_read rfl)
  exact keepsMemory_trans hread (keepsMemory_of_write rfl)

section Shifts
variable {op : Byte} {i : Instr} {f : Bool → Byte → Byte × Bool} {result : Bool → Nat → Nat}
  {newCarry : Nat → Bool} (hf : ShiftsByte f result newCarry) (hop : i.opcode = op)
include hf hop

/-- Every instruction whose action is `shiftA f` shifts A by `f` and makes no bus access. -/
theorem registerOnly_of_shiftA (hexec : ∀ s, exec i s = .next (shiftA (f (s.flag .carry)) s)) :
    RegisterOnly op i (fun s t => t.a.toNat = result (s.flag .carry) s.a.toNat ∧
      t.flag .carry = newCarry s.a.toNat ∧ ZeroNegativeOf t.a t ∧ KeepsRegisters [.a] s t ∧
      WritesOnlyFlags [.carry, .zero, .negative] s t) := by
  refine ⟨hop, fun s => ⟨_, hexec s, ?_, rfl, rfl, rfl⟩⟩
  obtain ⟨hcarry, hzn, hflags⟩ := setFlag_carry_setZN_flags
    (setA_p s (f (s.flag .carry) s.a).1) (f (s.flag .carry) s.a)
  exact ⟨hf.toNat_fst _ s.a, hcarry.trans (hf.snd_eq _ s.a), hzn,
    by simp [shiftA, KeepsRegisters], hflags⟩

/-- Every instruction whose action is `shiftMemory f` reads the effective address of its mode once,
writes the byte shifted by `f` there once, and changes no register (R139). -/
theorem modifies_of_shiftMemory {m : MemMode}
    (hadder : (dispatch op).map (fun e => e.pageCrossAdder) = some false)
    (hexec : ∀ s, exec i s = .next (shiftMemory (f (s.flag .carry)) m s)) :
    Modifies op i m result [.carry] newCarry := by
  refine ⟨hop, hadder, fun s => ?_⟩
  obtain ⟨hcarry, hzn, hflags⟩ := setFlag_carry_setZN_flags
    (modifyAt_p s m (f (s.flag .carry))) (modifyAt m (f (s.flag .carry)) s).1
  exact ⟨_, _, hexec s, hf.toNat_fst _ _, rfl, hzn,
    List.forall_mem_singleton.mpr (hcarry.trans (hf.snd_eq _ _)), hflags,
    by simp [shiftMemory, KeepsRegisters], modifyAt_keepsMemory m (f (s.flag .carry)) s, rfl,
    modifyAt_branchTaken s m (f (s.flag .carry))⟩

end Shifts

/-- Settles O42: the Accumulator arms are `shiftA` and the memory arms `shiftMemory` of their mode, each
by the byte operation of its mnemonic. -/
theorem shiftsAndRotates : Obligations.ShiftsAndRotates := by
  refine ⟨registerOnly_of_shiftA aslByte_shiftsByte rfl fun _ => rfl,
    registerOnly_of_shiftA lsrByte_shiftsByte rfl fun _ => rfl,
    registerOnly_of_shiftA rolByte_shiftsByte rfl fun _ => rfl,
    registerOnly_of_shiftA rorByte_shiftsByte rfl fun _ => rfl,
    ?_, ?_, ?_, ?_, ?_, ?_, ?_, ?_, ?_, ?_, ?_, ?_, ?_, ?_, ?_, ?_⟩
  iterate 4 exact fun _ => modifies_of_shiftMemory aslByte_shiftsByte rfl rfl fun _ => rfl
  iterate 4 exact fun _ => modifies_of_shiftMemory lsrByte_shiftsByte rfl rfl fun _ => rfl
  iterate 4 exact fun _ => modifies_of_shiftMemory rolByte_shiftsByte rfl rfl fun _ => rfl
  iterate 4 exact fun _ => modifies_of_shiftMemory rorByte_shiftsByte rfl rfl fun _ => rfl

end Sys2Proof.Machine

/-! PROOFS of the family 45_incdec_compare.md: INC and DEC (R200, R201), INX, INY, DEX and DEY (R202 to
R205), and the compares (R206 to R208). -/

namespace Sys2Proof.Machine
open Says

/-! Increments and decrements. -/

theorem toNat_byte_succ (v : Byte) : (v + 1#8).toNat = (v.toNat + 1) % 256 :=
  BitVec.toNat_add v 1#8

/-- Every instruction whose action is `stepMemory f` reads the effective address of its mode once,
writes `f` of the byte there once, and changes Z and N alone of the register file (R200, R201). -/
theorem modifies_of_stepMemory {op : Byte} {i : Instr} {m : MemMode} {f : Byte → Byte}
    {result : Nat → Nat} (hf : ∀ v, (f v).toNat = result v.toNat) (hop : i.opcode = op)
    (hadder : (dispatch op).map (fun e => e.pageCrossAdder) = some false)
    (hexec : ∀ s, exec i s = .next (stepMemory f m s)) :
    Modifies op i m (fun _ => result) [] (fun _ => false) := by
  refine ⟨hop, hadder, fun s => ?_⟩
  obtain ⟨hzn, hregisters, hflags⟩ := setZN_after_register_write
    (modifyAt m (fun v => (f v, false)) s).1.1 (modifyAt_p s m (fun v => (f v, false)))
    (changed := []) (by simp [KeepsRegisters])
  exact ⟨_, _, hexec s, hf _, rfl, hzn, List.forall_mem_nil _, hflags, hregisters,
    modifyAt_keepsMemory m (fun v => (f v, false)) s, rfl,
    modifyAt_branchTaken s m (fun v => (f v, false))⟩

/-- Settles O43: each of the eight arms is `stepMemory` of its mode, by the successor or the predecessor
of the byte. -/
theorem memoryIncrementDecrement : Obligations.MemoryIncrementDecrement := by
  refine ⟨?_, ?_, ?_, ?_, ?_, ?_, ?_, ?_⟩
  iterate 4 exact fun _ => modifies_of_stepMemory toNat_byte_succ rfl rfl fun _ => rfl
  iterate 4 exact fun _ => modifies_of_stepMemory toNat_byte_pred rfl rfl fun _ => rfl

/-- Settles O44: each writes the successor or the predecessor of one register and then Z and N of the
byte written. -/
theorem registerIncrementDecrement : Obligations.RegisterIncrementDecrement := by
  refine ⟨⟨rfl, fun s => ⟨_, rfl, ⟨toNat_byte_succ s.x, ?_⟩, rfl, rfl, rfl⟩⟩,
    ⟨rfl, fun s => ⟨_, rfl, ⟨toNat_byte_succ s.y, ?_⟩, rfl, rfl, rfl⟩⟩,
    ⟨rfl, fun s => ⟨_, rfl, ⟨toNat_byte_pred s.x, ?_⟩, rfl, rfl, rfl⟩⟩,
    ⟨rfl, fun s => ⟨_, rfl, ⟨toNat_byte_pred s.y, ?_⟩, rfl, rfl, rfl⟩⟩⟩ <;>
    exact setZN_after_register_write _ rfl (by simp [KeepsRegisters])

/-! Compares. -/

/-- Bit 7 of the 8-bit difference, from the bytes as numbers. -/
theorem msb_sub_eq_decide (r m : Byte) :
    (r - m).msb = decide (128 ≤ (r.toNat + 256 - m.toNat) % 256) := by
  have hm := m.isLt
  have hdiff : (r - m).toNat = (r.toNat + 256 - m.toNat) % 256 := by
    rw [BitVec.toNat_sub]
    omega
  rw [BitVec.msb_eq_decide, hdiff]

/-- A compare writes C, Z and N and no other flag (R206 to R208). -/
theorem compare_writesOnlyFlags (s : State) (r m : Byte) :
    WritesOnlyFlags [.carry, .zero, .negative] s (s.compare r m) := by
  refine ⟨by simp [compare_flag], fun f hf hu => ?_⟩
  obtain ⟨hc, hz, hn⟩ : f ≠ .carry ∧ f ≠ .zero ∧ f ≠ .negative := by simpa using hf
  simp [compare_flag, hu, hc, hz, hn]

/-- Every instruction that compares the register `register` with its operand does what R206 to R208
say, where reading the operand leaves that register. -/
theorem reads_of_compare {op : Byte} {i : Instr} {o : Operand} (register : State → Byte)
    (hkept : ∀ s, register (operand o s).2 = register s) (hop : i.opcode = op)
    (hadder : (dispatch op).map (fun e => e.pageCrossAdder) = some (Indexed o))
    (hexec : ∀ s, exec i s =
      .next ((operand o s).2.compare (register (operand o s).2) (operand o s).1)) :
    Reads op i o (fun m s t => t.flag .carry = decide (m.toNat ≤ (register s).toNat) ∧
      t.flag .zero = decide (register s = m) ∧
      t.flag .negative = decide (128 ≤ ((register s).toNat + 256 - m.toNat) % 256) ∧
      KeepsRegisters [] s t ∧ WritesOnlyFlags [.carry, .zero, .negative] s t) := by
  refine reads_of_exec hop hadder hexec (fun s => ⟨?carry, ?zero, ?negative, ?registers, ?flags⟩)
    (fun _ => rfl) (fun _ => rfl) (operand_branchTaken · o)
  case carry => simp [compare_flag, hkept]
  case zero => rw [compare_flag, hkept]; rfl
  case negative => simp [compare_flag, hkept, msb_sub_eq_decide]
  case registers => simp [State.compare, KeepsRegisters]
  case flags =>
    obtain ⟨hunused, hothers⟩ := compare_writesOnlyFlags (operand o s).2
      (register (operand o s).2) (operand o s).1
    exact ⟨hunused, fun f hf hu => (hothers f hf hu).trans (operand_flag s o f)⟩

/-- Settles O45: CMP, CPX and CPY compare A, X and Y with their mode's operand, and reading an operand
changes none of the three. -/
theorem comparesSetFlagsOnly : Obligations.ComparesSetFlagsOnly := by
  refine ⟨?_, ?_, ?_, ?_, ?_, ?_, ?_, ?_, ?_, ?_, ?_, ?_, ?_, ?_⟩
  iterate 8
    exact fun _ => reads_of_compare (·.a) (operand_a · _) rfl rfl fun _ => rfl
  iterate 3
    exact fun _ => reads_of_compare (·.x) (operand_x · _) rfl rfl fun _ => rfl
  iterate 3
    exact fun _ => reads_of_compare (·.y) (operand_y · _) rfl rfl fun _ => rfl

end Sys2Proof.Machine

/-! PROOFS of the family 46_branch_jump.md: the branches (R216 to R223), JMP (R224), JSR (R225) and RTS
(R226). -/

namespace Sys2Proof.Machine
open Says

/-! Branches. -/

/-- Two addresses lie on different pages when their numbers do (R132). -/
theorem pageDiffers_eq_decide (u v : Addr) :
    pageDiffers u v = decide (u.toNat / 256 ≠ v.toNat / 256) := by
  rw [Bool.eq_iff_iff, pageDiffers, bne_iff_ne, decide_eq_true_iff, ne_eq, ← BitVec.toNat_inj,
    toNat_hiByte, toNat_hiByte]

/-- Adding a sign-extended displacement adds its signed value modulo 65536 (R130). -/
theorem toNat_add_sext16 (w : Addr) (b : Byte) :
    ((w + sext16 b).toNat : Int) = ((w.toNat : Int) + b.toInt) % 65536 := by
  have hsum : w + sext16 b = BitVec.ofInt 16 (w.toNat + b.toInt) := by
    rw [BitVec.ofInt_add, BitVec.ofInt_natCast, BitVec.ofNat_toNat, BitVec.setWidth_eq]
    rfl
  rw [hsum, BitVec.toNat_ofInt]
  exact Int.toNat_of_nonneg (Int.emod_nonneg _ (by decide))

/-- Every instruction whose action is `branchIf` on `cond` does what R215 says. -/
theorem branches_of_branchIf {op : Byte} {i : Instr} {b : Byte} {cond : State → Bool}
    (hop : i.opcode = op) (hexec : ∀ s, exec i s = .next (branchIf (cond s) b s)) :
    Branches op i b cond := by
  refine ⟨hop, fun s => ⟨fun hcond => ?notTaken, fun hcond => ?taken⟩⟩ <;> rw [hexec s, hcond]
  case notTaken => rfl
  case taken =>
    exact ⟨_, rfl, toNat_add_sext16 s.pc b, rfl, pageDiffers_eq_decide _ _, rfl,
      by simp [branchIf, KeepsRegisters], rfl⟩

/-- Settles O46: each of the eight arms is `branchIf` on its flag, set or clear. -/
theorem branchesTakenAndNotTaken : Obligations.BranchesTakenAndNotTaken := by
  refine ⟨?_, ?_, ?_, ?_, ?_, ?_, ?_, ?_⟩ <;>
    exact fun _ => branches_of_branchIf rfl fun _ => rfl

/-! What two bus accesses keep of memory. -/

/-- What two parts keep one after the other is kept through both but for what either stores. -/
theorem keepsMemory_append {s t u : State} {first second : List Addr}
    (hst : KeepsMemoryBut first s t) (htu : KeepsMemoryBut second t u) :
    KeepsMemoryBut (first ++ second) s u := by
  obtain ⟨hram, hpeek, hclaimed, hsize⟩ := hst
  obtain ⟨hram', hpeek', hclaimed', hsize'⟩ := htu
  refine ⟨fun k hk => ?_, fun c hc hfree => ?_, fun c => (hclaimed' c).trans (hclaimed c),
    hsize'.trans hsize⟩
  · obtain ⟨hfirst, hsecond⟩ := List.forall_mem_append.mp hk
    exact (hram' k hsecond).trans (hram k hfirst)
  · obtain ⟨hfirst, hsecond⟩ := not_or.mp (mt List.mem_append.mpr hc)
    exact (hpeek' c hsecond ((hclaimed c).trans hfree)).trans (hpeek c hfirst hfree)

/-- Two reads store nothing. -/
theorem keepsMemory_of_two_reads {s t : State} {a c : Addr}
    (h : t.bus = ((s.bus.read a).2.read c).2) : KeepsMemoryBut [] s t :=
  keepsMemory_of_mem_eq (by simp [h]) (by simp [h]) (by simp [h])

/-- A word pushed is two writes, at the stack addresses of SP and SP - 1 (R142). -/
theorem pushWord_keepsMemory (s : State) (w : Addr) :
    KeepsMemoryBut [stackAddr s.sp, stackAddr (s.sp - 1#8)] s (s.pushWord w) :=
  keepsMemory_append (first := [_]) (t := s.push (hiByte w)) (keepsMemory_of_write rfl)
    (keepsMemory_of_write rfl)

/-! Jumps. -/

/-- Settles O47: each writes PC alone over the state its pointer reads leave. -/
theorem jumpsSetPc : Obligations.JumpsSetPc := by
  refine ⟨fun w => ⟨rfl, fun s => ⟨_, rfl, ⟨rfl, ?_, rfl⟩, rfl, rfl, rfl⟩⟩,
    fun w => ⟨rfl, fun s => ⟨_, rfl, rfl, rfl, ?_, rfl, ⟨rfl, rfl⟩, keepsMemory_of_two_reads rfl⟩⟩⟩
  · simp [KeepsRegisters]
  · simp [jumpIndirect, State.readWordBug, KeepsRegisters]

/-! Call and return. -/

/-- The address in page 1 that a number names is the stack address of its low byte (R21). -/
theorem eq_stackAddr {a : Addr} {sp : Byte} (h : a.toNat = 256 + sp.toNat) : a = stackAddr sp :=
  BitVec.eq_of_toNat_eq (h.trans (toNat_stackAddr sp).symm)

theorem hiByte_eq_ofNat (w : Addr) : hiByte w = BitVec.ofNat 8 (w.toNat / 256) := by
  rw [← toNat_hiByte, BitVec.ofNat_toNat, BitVec.setWidth_eq]

theorem loByte_eq_ofNat (w : Addr) : loByte w = BitVec.ofNat 8 w.toNat :=
  (BitVec.ofNat_toNat 8 w).symm

theorem toNat_byte_pred_pred (v : Byte) : (v - 1#8 - 1#8).toNat = (v.toNat + 254) % 256 := by
  rw [toNat_byte_pred, toNat_byte_pred]
  omega

theorem toNat_byte_succ_succ (v : Byte) : (v + 1#8 + 1#8).toNat = (v.toNat + 2) % 256 := by
  rw [toNat_byte_succ, toNat_byte_succ]
  omega

/-- The bus after a word is pushed: the high byte written first, then the low byte (R142). -/
theorem pushWord_bus (s : State) (w : Addr) :
    (s.pushWord w).bus = (s.bus.write (stackAddr s.sp) (BitVec.ofNat 8 (w.toNat / 256))).write
      (stackAddr (s.sp - 1#8)) (BitVec.ofNat 8 w.toNat) := by
  rw [← hiByte_eq_ofNat, ← loByte_eq_ofNat]
  rfl

/-- Settles O48: the numbers name the stack addresses and the word of one `pushWord`. -/
theorem callPushesReturnAddressMinusOne : Obligations.CallPushesReturnAddressMinusOne := by
  refine fun w => ⟨rfl, fun s high low ra hhigh hlow hra => ?_⟩
  obtain rfl : high = stackAddr s.sp := eq_stackAddr hhigh
  obtain rfl : low = stackAddr (s.sp - 1#8) := eq_stackAddr (by rw [hlow, toNat_byte_pred])
  obtain rfl : ra = s.pc - 1#16 :=
    BitVec.eq_of_toNat_eq (by rw [hra, BitVec.toNat_sub, Nat.add_comm]; rfl)
  exact ⟨_, rfl, pushWord_bus s _, toNat_byte_pred_pred s.sp, rfl, rfl,
    by simp [callSubroutine, KeepsRegisters], ⟨rfl, rfl⟩, pushWord_keepsMemory s _⟩

/-- Settles O49: the numbers name the stack addresses of one `pullWord`, and PC is one past the word
pulled. -/
theorem returnPullsWordPlusOne : Obligations.ReturnPullsWordPlusOne := by
  refine ⟨rfl, fun s low high hlow hhigh => ?_⟩
  obtain rfl : low = stackAddr (s.sp + 1#8) := eq_stackAddr (by rw [hlow, toNat_byte_succ])
  obtain rfl : high = stackAddr (s.sp + 1#8 + 1#8) :=
    eq_stackAddr (by rw [hhigh, toNat_byte_succ_succ])
  have hpc : (s.pullWord.1 + 1#16).toNat = (s.pull.1.toNat + 256 * s.pull.2.pull.1.toNat + 1) %
      65536 := by
    rw [BitVec.toNat_add, State.pullWord, toNat_mkWord]
    rfl
  exact ⟨_, rfl, hpc, rfl, toNat_byte_succ_succ s.sp, rfl,
    by simp [returnFromSubroutine, KeepsRegisters], ⟨rfl, rfl⟩, keepsMemory_of_two_reads rfl⟩

end Sys2Proof.Machine

/-! PROOFS of the family 47_stack_status.md: PHA, PLA, PHP and PLP (R235 to R238), and the flag
instructions (R239 to R245). -/

namespace Sys2Proof.Machine
open Says

/-! Pushes and pulls. -/

/-- `WriteP` of a pulled status finds Unused already forced to 1 (R144, R238). -/
theorem forceUnused_pulledStatus (v : Byte) : forceUnused (pulledStatus v) = pulledStatus v := by
  rw [forceUnused, pulledStatus, BitVec.or_assoc, BitVec.or_self]

/-- Settles O51: each is one push, of A or of P with Break set. -/
theorem pushesStoreOneByte : Obligations.PushesStoreOneByte := by
  refine ⟨⟨rfl, fun s a ha => ?_⟩, ⟨rfl, fun s a ha => ?_⟩⟩
  · obtain ⟨hpush, -⟩ := pushAndPull s s.a a
    exact ⟨_, rfl, hpush ha⟩
  · obtain ⟨hpush, -⟩ := pushAndPull s (pushedStatus s.p) a
    exact ⟨_, rfl, hpush ha⟩

/-- Settles O52: each is one pull and the write of the pulled byte, to A with Z and N or to P. -/
theorem pullsReadOneByte : Obligations.PullsReadOneByte := by
  refine ⟨⟨rfl, fun s a ha => ?pla⟩, ⟨rfl, fun s a ha => ?plp⟩⟩ <;>
    obtain ⟨-, hpull⟩ := pushAndPull s s.a a <;>
    obtain ⟨hvalue, hbus, hsp, -, -, htransients, hmemory⟩ := hpull ha
  case pla =>
    have heffect := setZN_after_register_write (s := s) (u := s.pull.2.setA s.pull.1)
      (changed := [.a, .sp]) s.pull.1 rfl (by simp [KeepsRegisters])
    exact ⟨_, rfl, hvalue ▸ ⟨rfl, heffect⟩, hbus, hsp, htransients, hmemory⟩
  case plp =>
    have hp : s.pullStatus.p = pulledStatus s.pull.1 := forceUnused_pulledStatus s.pull.1
    exact ⟨_, rfl, ⟨hvalue ▸ hp, by simp [State.pullStatus, KeepsRegisters]⟩, hbus, hsp,
      htransients, hmemory⟩

/-! The flag instructions. -/

/-- Every instruction whose action writes one flag other than Unused does what R239 to R245 say. -/
theorem registerOnly_of_setFlag {op : Byte} {i : Instr} {f : Flag} {e : Bool}
    (hunused : f ≠ .unused) (hop : i.opcode = op) (hexec : ∀ s, exec i s = .next (s.setFlag f e)) :
    RegisterOnly op i (fun s t => t.flag f = e ∧ WritesOnlyFlags [f] s t ∧
      KeepsRegisters [] s t) :=
  ⟨hop, fun s => ⟨_, hexec s, ⟨by simp [hunused], setFlag_writesOnlyFlags s f e,
    by simp [KeepsRegisters]⟩, rfl, rfl, rfl⟩⟩

/-- Settles O53: each of the seven arms writes one flag, and none of them Unused. -/
theorem flagInstructionsWriteOneFlag : Obligations.FlagInstructionsWriteOneFlag := by
  refine ⟨?_, ?_, ?_, ?_, ?_, ?_, ?_⟩ <;>
    exact registerOnly_of_setFlag (by decide) rfl fun _ => rfl

end Sys2Proof.Machine

/-! PROOFS of the family 48_interrupt_nop.md: BRK (R255), RTI (R256) and NOP (R257). -/

namespace Sys2Proof.Machine
open Says

/-! Three steps of SP. -/

theorem toNat_byte_pred_pred_pred (v : Byte) :
    (v - 1#8 - 1#8 - 1#8).toNat = (v.toNat + 253) % 256 := by
  rw [toNat_byte_pred, toNat_byte_pred_pred]
  omega

theorem toNat_byte_succ_succ_succ (v : Byte) :
    (v + 1#8 + 1#8 + 1#8).toNat = (v.toNat + 3) % 256 := by
  rw [toNat_byte_succ, toNat_byte_succ_succ]
  omega

/-! Taking the trap. -/

/-- What the trap stores before it reads the vector: the return address, high byte first, then P
with Break set (R276). -/
def State.trapPushes (s : State) (returnTo : Addr) : State :=
  (s.pushWord returnTo).push (pushedStatus s.p)

theorem trapPushes_bus (s : State) (w : Addr) :
    (s.trapPushes w).bus =
      ((s.bus.write (stackAddr s.sp) (BitVec.ofNat 8 (w.toNat / 256))).write
        (stackAddr (s.sp - 1#8)) (BitVec.ofNat 8 w.toNat)).write
          (stackAddr (s.sp - 1#8 - 1#8)) (s.p ||| 0x10#8) := by
  rw [State.trapPushes, push_bus, pushWord_bus, pushWord_sp, pushedStatus]

/-- After its pushes the trap reads the vector's two bytes, the low one first (R277). -/
theorem takeTrap_bus (s : State) (w : Addr) :
    (s.takeTrap w).bus = (((s.trapPushes w).bus.read 0xFFFE#16).2.read 0xFFFF#16).2 := by
  simp [State.takeTrap, State.trapPushes, State.readWord, Config.brkVector]

theorem takeTrap_pc (s : State) (w : Addr) :
    (s.takeTrap w).pc = mkWord (((s.trapPushes w).bus.read 0xFFFE#16).2.read 0xFFFF#16).1
      ((s.trapPushes w).bus.read 0xFFFE#16).1 := by
  simp [State.takeTrap, State.trapPushes, State.readWord, Config.brkVector]

theorem takeTrap_keepsTransients (s : State) (w : Addr) : KeepsTransients s (s.takeTrap w) := by
  simp [KeepsTransients, State.takeTrap, State.readWord]

/-- The trap writes I and no other flag: D keeps its value (R255, R277). -/
theorem takeTrap_writesOnlyFlags (s : State) (w : Addr) :
    WritesOnlyFlags [.interruptDisable] s (s.takeTrap w) := by
  obtain ⟨-, -, -, -, hflag⟩ := takeTrap_registers s w
  refine ⟨by simp [hflag], fun f hf hu => ?_⟩
  have hne : f ≠ .interruptDisable := by simpa using hf
  simp [hflag, hu, hne]

/-- The trap stores at its three stack addresses alone; the vector is only read (R276, R277). -/
theorem takeTrap_keepsMemory (s : State) (w : Addr) :
    KeepsMemoryBut [stackAddr s.sp, stackAddr (s.sp - 1#8), stackAddr (s.sp - 1#8 - 1#8)]
      s (s.takeTrap w) := by
  have hstatus : KeepsMemoryBut [stackAddr (s.sp - 1#8 - 1#8)] (s.pushWord w) (s.trapPushes w) :=
    keepsMemory_of_write rfl
  have hvector : KeepsMemoryBut [] (s.trapPushes w) (s.takeTrap w) :=
    keepsMemory_of_two_reads (takeTrap_bus s w)
  exact keepsMemory_append (keepsMemory_append (pushWord_keepsMemory s w) hstatus) hvector

/-- Settles O54: the numbers name the stack addresses and the return address of one `takeTrap`. -/
theorem breakTakesTheTrap : Obligations.BreakTakesTheTrap := by
  refine ⟨rfl, fun s a1 a2 a3 ret h1 h2 h3 hret => ?_⟩
  obtain rfl : a1 = stackAddr s.sp := eq_stackAddr h1
  obtain rfl : a2 = stackAddr (s.sp - 1#8) := eq_stackAddr (by rw [h2, toNat_byte_pred])
  obtain rfl : a3 = stackAddr (s.sp - 1#8 - 1#8) :=
    eq_stackAddr (by rw [h3, toNat_byte_pred_pred])
  obtain rfl : ret = s.pc + 1#16 :=
    BitVec.eq_of_toNat_eq (hret.trans (BitVec.toNat_add s.pc 1#16).symm)
  obtain ⟨ha, hx, hy, hsp, hflag⟩ := takeTrap_registers s (s.pc + 1#16)
  refine ⟨s.takeTrap (s.pc + 1#16), (s.trapPushes (s.pc + 1#16)).bus, rfl, trapPushes_bus s _,
    takeTrap_bus s _, ?pc, ?sp, by simp [hflag], takeTrap_writesOnlyFlags s _,
    by simp [KeepsRegisters, ha, hx, hy], takeTrap_keepsTransients s _, takeTrap_keepsMemory s _⟩
  case pc => rw [takeTrap_pc, toNat_mkWord]
  case sp => rw [hsp, toNat_byte_pred_pred_pred]

/-! Returning from the trap. -/

theorem returnFromTrap_p (s : State) : s.returnFromTrap.p = pulledStatus s.pull.1 :=
  forceUnused_pulledStatus s.pull.1

theorem returnFromTrap_keepsRegisters (s : State) :
    KeepsRegisters [.pc, .sp] s s.returnFromTrap := by
  simp [State.returnFromTrap, State.pullStatus, KeepsRegisters]

theorem returnFromTrap_keepsTransients (s : State) : KeepsTransients s s.returnFromTrap := by
  simp [State.returnFromTrap, State.pullStatus, KeepsTransients]

/-- Returning from the trap is three reads, which store nothing (R256). -/
theorem returnFromTrap_keepsMemory (s : State) : KeepsMemoryBut [] s s.returnFromTrap := by
  have hstatus : KeepsMemoryBut [] s s.pullStatus := keepsMemory_of_read rfl
  have hword : KeepsMemoryBut [] s.pullStatus s.returnFromTrap := keepsMemory_of_two_reads rfl
  exact keepsMemory_trans hstatus hword

/-- Settles O55: the numbers name the stack addresses of the three pulls of one `returnFromTrap`. -/
theorem returnFromInterruptRestores : Obligations.ReturnFromInterruptRestores := by
  refine ⟨rfl, fun s a1 a2 a3 h1 h2 h3 => ?_⟩
  obtain rfl : a1 = stackAddr (s.sp + 1#8) := eq_stackAddr (by rw [h1, toNat_byte_succ])
  obtain rfl : a2 = stackAddr (s.sp + 1#8 + 1#8) :=
    eq_stackAddr (by rw [h2, toNat_byte_succ_succ])
  obtain rfl : a3 = stackAddr (s.sp + 1#8 + 1#8 + 1#8) :=
    eq_stackAddr (by rw [h3, toNat_byte_succ_succ_succ])
  exact ⟨s.returnFromTrap, s.pullStatus.bus, s.pullStatus.pull.2.bus, rfl, rfl, rfl, rfl,
    returnFromTrap_p s, toNat_mkWord _ _, toNat_byte_succ_succ_succ s.sp,
    returnFromTrap_keepsRegisters s, returnFromTrap_keepsTransients s,
    returnFromTrap_keepsMemory s⟩

/-! No operation. -/

/-- The row of R95 for NOP: two cycles, no operand byte and no adder. -/
theorem dispatch_nop :
    dispatch 0xEA#8 = some ⟨0xEA#8, .nop, .implicit, .implied .nop, 2, false, false⟩ := rfl

/-- Settles O57: NOP answers the state its opcode fetch leaves, and its row has base 2 and no
adder. -/
theorem nopChangesNothing : Obligations.NopChangesNothing := by
  refine ⟨rfl, fun _ => rfl, fun s hbyte => ?_⟩
  obtain ⟨t, hexec, hstep⟩ := hostStep_legal ((congrArg dispatch hbyte).trans dispatch_nop)
  obtain rfl : s.clearTransients.fetchByte.2 = t := Host.Outcome.next.inj hexec
  exact hstep

end Sys2Proof.Machine

/-! PROOFS across the families, part 1: the decoder and the encoder are inverse to each other
(30_encoding.md sections 1 to 3), and the default cycle table (70_reset_and_hazards.md section 4). -/

namespace Sys2Proof
open Machine Says

/-- Settles O2: no constructor spells a forbidden pair, and the decoder takes exactly the bytes the
encoder makes. -/
theorem decodeOfEncodeIsTheInstruction : Obligations.DecodeOfEncodeIsTheInstruction :=
  fun i rest => ⟨instr_wellFormed i, decode_encode_append i rest⟩

/-- Settles O5: what `tableEntry` says of the entry and of the number of operand bytes, and the decoder
leaving exactly the bytes that follow. -/
theorem lengthFollowsMode : Obligations.LengthFollowsMode := by
  intro i
  obtain ⟨e, hdispatch, -, hmnemonic, hmode, -, hlength, -⟩ := tableEntry i
  refine ⟨⟨e, hdispatch, hmnemonic, hmode⟩, ?_, fun rest => ⟨rest, decode_encode_append i rest, ?_⟩⟩
  · rw [encode, List.length_cons, hlength, Nat.add_comm]
    cases i.mode <;> rfl
  · rw [List.length_append, Nat.add_sub_cancel_left]

/-! The entries of the dispatch table. -/

/-- An entry that the dispatch finds is a row of the table, with the byte as its opcode. -/
theorem mem_dispatchTable_of_dispatch {op : Byte} {e : DispatchEntry} (h : dispatch op = some e) :
    e ∈ dispatchTable ∧ e.opcode = op :=
  ⟨List.mem_of_find?_eq_some h, by simpa using List.find?_some h⟩

/-- What holds of the rows of each of the eight lists holds of every row of the table. -/
theorem forall_mem_dispatchTable {P : DispatchEntry → Prop} (hload : ∀ e ∈ loadRows, P e)
    (hstore : ∀ e ∈ storeTransferRows, P e) (harithmetic : ∀ e ∈ arithmeticRows, P e)
    (hlogic : ∀ e ∈ logicRows, P e) (hshift : ∀ e ∈ shiftRows, P e)
    (hincDec : ∀ e ∈ incDecCompareRows, P e) (hcontrol : ∀ e ∈ controlRows, P e)
    (hstack : ∀ e ∈ stackStatusRows, P e) : ∀ e ∈ dispatchTable, P e := by
  simp only [dispatchTable, List.forall_mem_append]
  exact ⟨⟨⟨⟨⟨⟨⟨hload, hstore⟩, harithmetic⟩, hlogic⟩, hshift⟩, hincDec⟩, hcontrol⟩, hstack⟩

/-! Decoding, read backwards. -/

/-- The entry encodes what it makes: the instruction made of the operand bytes has the entry's opcode
and these operand bytes, low byte first (R90, R92). -/
def DispatchEntry.EncodesItsOwn (e : DispatchEntry) : Prop :=
  match e.shape with
  | .implied i => encode i = [e.opcode]
  | .byte make => ∀ b, encode (make b) = [e.opcode, b]
  | .word make => ∀ w, encode (make w) = [e.opcode, loByte w, hiByte w]

/-- Every row of R95 encodes what it makes. -/
theorem encodesItsOwn_of_mem : ∀ e ∈ dispatchTable, e.EncodesItsOwn := by
  apply forall_mem_dispatchTable <;> rw [← List.forall_iff_forall_mem]
  all_goals
    dsimp only [loadRows, storeTransferRows, arithmeticRows, logicRows, shiftRows,
      incDecCompareRows, controlRows, stackStatusRows, List.Forall, DispatchEntry.EncodesItsOwn]
    and_intros <;> intros <;> rfl

/-- What an entry assembles of the bytes after the opcode is encoded by the opcode and the bytes it
took. -/
theorem encode_of_assemble {e : DispatchEntry} {tail rest : List Byte} {i : Instr}
    (he : e.EncodesItsOwn) (h : assemble e tail = .ok (i, rest)) :
    e.opcode :: tail = encode i ++ rest := by
  obtain ⟨op, m, md, shape, base, pageCross, branch⟩ := e
  cases shape with
  | implied j =>
    obtain ⟨rfl, rfl⟩ : j = i ∧ tail = rest := by simpa [assemble] using h
    exact congrArg (· ++ tail) he.symm
  | byte make =>
    cases tail with
    | nil => cases h
    | cons b tail =>
      obtain ⟨rfl, rfl⟩ : make b = i ∧ tail = rest := by simpa [assemble] using h
      exact congrArg (· ++ tail) (he b).symm
  | word make =>
    match tail, h with
    | [], h | [_], h => cases h
    | lo :: hi :: tail, h =>
      obtain ⟨rfl, rfl⟩ : make (mkWord hi lo) = i ∧ tail = rest := by simpa [assemble] using h
      rw [he (mkWord hi lo), loByte_mkWord, hiByte_mkWord]
      rfl

/-- What bytes decode: an opcode byte with an entry, and operand bytes the entry assembles. -/
theorem decode_eq_ok {bs rest : List Byte} {i : Instr} (h : decode bs = .ok (i, rest)) :
    ∃ op tail e, bs = op :: tail ∧ dispatch op = some e ∧ assemble e tail = .ok (i, rest) := by
  unfold decode at h
  split at h
  · cases h
  · next op tail =>
    split at h
    · cases h
    · next e he => exact ⟨op, tail, e, rfl, he, h⟩

/-- Settles O3: the opcode byte selects a row of the table, and every row encodes what it makes. -/
theorem decodedBytesAreTheEncoding : Obligations.DecodedBytesAreTheEncoding := by
  intro bs i rest h
  obtain ⟨op, tail, e, rfl, hdispatch, hassemble⟩ := decode_eq_ok h
  obtain ⟨hmem, rfl⟩ := mem_dispatchTable_of_dispatch hdispatch
  exact encode_of_assemble (encodesItsOwn_of_mem e hmem) hassemble

/-! The default cycle table. -/

/-- The 23 opcodes whose entry charges a page crossing (R321). -/
def pageCrossOpcodes : List Byte :=
  [0xBD#8, 0xB9#8, 0xB1#8, 0x7D#8, 0x79#8, 0x71#8, 0xFD#8, 0xF9#8, 0xF1#8, 0x3D#8, 0x39#8, 0x31#8,
    0x1D#8, 0x19#8, 0x11#8, 0x5D#8, 0x59#8, 0x51#8, 0xDD#8, 0xD9#8, 0xD1#8, 0xBE#8, 0xBC#8]

/-- The entry has the base count and the adders of R321. -/
def DispatchEntry.HasDefaultCycles (e : DispatchEntry) : Prop :=
  e.baseCycles = defaultBase e.mnemonic e.mode ∧ (e.branchAdder = true ↔ e.mode = .relative) ∧
    (e.pageCrossAdder = true ↔ e.opcode ∈ pageCrossOpcodes)

theorem hasDefaultCycles_of_mem : ∀ e ∈ dispatchTable, e.HasDefaultCycles := by
  unfold DispatchEntry.HasDefaultCycles
  exact forall_mem_dispatchTable (by decide) (by decide) (by decide) (by decide) (by decide)
    (by decide) (by decide) (by decide)

/-- Settles O58: every row of the table has the count and the adders of R321. -/
theorem baseCyclesAreTheDefaultTable : Obligations.BaseCyclesAreTheDefaultTable := by
  intro op e h
  obtain ⟨hmem, rfl⟩ := mem_dispatchTable_of_dispatch h
  exact hasDefaultCycles_of_mem e hmem

end Sys2Proof

/-! PROOFS across the families, part 2: what every instruction may write (R29), and the invariant of the
machine (R26, R27, R31). -/

namespace Sys2Proof.Machine
open Says

/-! A part of an instruction, by what it may write. -/

/-- From `s` to `t` no register outside `regs`, no flag outside `flags` but Unused and, unless `stores`,
no byte of memory changes; and `t` is lawful if `s` is. -/
structure ChangesOnly (regs : List Reg) (flags : List Flag) (stores : Bool) (s t : State) : Prop where
  registers : KeepsRegisters regs s t
  flags : ∀ f, f ∉ flags → f ≠ .unused → t.flag f = s.flag f
  memory : stores = false → KeepsMemoryBut [] s t
  inv : s.Inv → t.Inv

/-- Two parts one after the other change what either changes. -/
theorem ChangesOnly.trans {regs regs' : List Reg} {flags flags' : List Flag} {stores stores' : Bool}
    {s t u : State} (hst : ChangesOnly regs flags stores s t)
    (htu : ChangesOnly regs' flags' stores' t u) :
    ChangesOnly (regs ++ regs') (flags ++ flags') (stores || stores') s u where
  registers := by
    obtain ⟨ha, hx, hy, hsp, hpc⟩ := hst.registers
    obtain ⟨ha', hx', hy', hsp', hpc'⟩ := htu.registers
    simp only [KeepsRegisters, List.mem_append, not_or]
    exact ⟨fun h => (ha' h.2).trans (ha h.1), fun h => (hx' h.2).trans (hx h.1),
      fun h => (hy' h.2).trans (hy h.1), fun h => (hsp' h.2).trans (hsp h.1),
      fun h => (hpc' h.2).trans (hpc h.1)⟩
  flags := by
    intro f hf hu
    obtain ⟨hfirst, hsecond⟩ := not_or.mp (mt List.mem_append.mpr hf)
    exact (htu.flags f hsecond hu).trans (hst.flags f hfirst hu)
  memory h := by
    obtain ⟨hfirst, hsecond⟩ := Bool.or_eq_false_iff.mp h
    exact keepsMemory_trans (hst.memory hfirst) (htu.memory hsecond)
  inv h := htu.inv (hst.inv h)

/-- A part changes only what a longer list names. -/
theorem ChangesOnly.mono {regs regs' : List Reg} {flags flags' : List Flag} {stores : Bool}
    {s t : State} (h : ChangesOnly regs flags stores s t) (hregs : regs ⊆ regs')
    (hflags : flags ⊆ flags') : ChangesOnly regs' flags' stores s t where
  registers := by
    obtain ⟨ha, hx, hy, hsp, hpc⟩ := h.registers
    exact ⟨fun hn => ha (mt (@hregs _) hn), fun hn => hx (mt (@hregs _) hn),
      fun hn => hy (mt (@hregs _) hn), fun hn => hsp (mt (@hregs _) hn),
      fun hn => hpc (mt (@hregs _) hn)⟩
  flags f hf hu := h.flags f (mt (@hflags f) hf) hu
  memory := h.memory
  inv := h.inv

/-! The parts: one per state operation. -/

section Parts
variable (s : State)

/-- A part that leaves P and the bus alone changes the registers it writes. -/
theorem changesOnly_of_registers {regs : List Reg} {t : State} (hp : t.p = s.p)
    (hbus : t.bus = s.bus) (hregisters : KeepsRegisters regs s t) :
    ChangesOnly regs [] false s t where
  registers := hregisters
  flags f _ _ := congrArg (flagOf · f) hp
  memory _ := keepsMemory_of_mem_eq (by rw [hbus]) (by rw [hbus]) (by simp [hbus])
  inv h := by simpa only [State.Inv, State.flag, hp, hbus] using h

theorem changesOnly_refl : ChangesOnly [] [] false s s :=
  changesOnly_of_registers s rfl rfl (by simp [KeepsRegisters])

theorem changesOnly_setA (v : Byte) : ChangesOnly [.a] [] false s (s.setA v) :=
  changesOnly_of_registers s rfl rfl (by simp [KeepsRegisters])

theorem changesOnly_setX (v : Byte) : ChangesOnly [.x] [] false s (s.setX v) :=
  changesOnly_of_registers s rfl rfl (by simp [KeepsRegisters])

theorem changesOnly_setY (v : Byte) : ChangesOnly [.y] [] false s (s.setY v) :=
  changesOnly_of_registers s rfl rfl (by simp [KeepsRegisters])

theorem changesOnly_setSp (v : Byte) : ChangesOnly [.sp] [] false s (s.setSp v) :=
  changesOnly_of_registers s rfl rfl (by simp [KeepsRegisters])

theorem changesOnly_setPc (w : Addr) : ChangesOnly [.pc] [] false s (s.setPc w) :=
  changesOnly_of_registers s rfl rfl (by simp [KeepsRegisters])

/-- A part that leaves the register file alone and the bus lawful changes the memory it stores to. -/
theorem changesOnly_of_bus {stores : Bool} {t : State} (hp : t.p = s.p)
    (hregisters : KeepsRegisters [] s t) (hmemory : stores = false → KeepsMemoryBut [] s t)
    (hwf : s.bus.wf = true → t.bus.wf = true) : ChangesOnly [] [] stores s t where
  registers := hregisters
  flags f _ _ := congrArg (flagOf · f) hp
  memory := hmemory
  inv h := by
    obtain ⟨hunused, hbreak, hbus⟩ := h
    exact ⟨(congrArg (flagOf · _) hp).trans hunused, (congrArg (flagOf · _) hp).trans hbreak,
      hwf hbus⟩

theorem changesOnly_busRead (a : Addr) : ChangesOnly [] [] false s (s.busRead a).2 :=
  changesOnly_of_bus s rfl (by simp [KeepsRegisters]) (fun _ => keepsMemory_of_read rfl) (read_wf a)

theorem changesOnly_busWrite (a : Addr) (v : Byte) : ChangesOnly [] [] true s (s.busWrite a v) :=
  changesOnly_of_bus s rfl (by simp [KeepsRegisters]) (fun h => by cases h) (write_bus_wf a v)

theorem changesOnly_address (m : MemMode) : ChangesOnly [] [] false s (address m s).2 :=
  changesOnly_of_bus s (address_p s m) (by simp [KeepsRegisters])
    (fun _ => address_keepsMemory m s) (address_wf s m)

theorem changesOnly_operand (o : Operand) : ChangesOnly [] [] false s (operand o s).2 :=
  changesOnly_of_bus s (operand_p s o) (by simp [KeepsRegisters])
    (fun _ => keepsMemory_of_operand rfl) (operand_wf s o)

/-- A write of P alone changes the flags it writes, and keeps a lawful state lawful where it leaves
Unused 1 and a clear Break clear. -/
theorem changesOnly_of_status {flags : List Flag} {t : State}
    (hregisters : KeepsRegisters [] s t) (hbus : t.bus = s.bus)
    (hflags : WritesOnlyFlags flags s t) (hbreak : s.flag .break = false → t.flag .break = false) :
    ChangesOnly [] flags false s t where
  registers := hregisters
  flags := hflags.2
  memory _ := keepsMemory_of_mem_eq (by rw [hbus]) (by rw [hbus]) (by simp [hbus])
  inv h := by
    obtain ⟨-, hclear, hwf⟩ := h
    exact ⟨hflags.1, hbreak hclear, by rw [hbus]; exact hwf⟩

theorem changesOnly_setFlag (f : Flag) (e : Bool) (hf : f ≠ .break) :
    ChangesOnly [] [f] false s (s.setFlag f e) :=
  changesOnly_of_status s (by simp [KeepsRegisters]) rfl (setFlag_writesOnlyFlags s f e)
    (fun h => by simp [hf.symm, h])

theorem changesOnly_setZN (v : Byte) : ChangesOnly [] [.zero, .negative] false s (s.setZN v) :=
  (changesOnly_setFlag s .zero _ (by decide)).trans (changesOnly_setFlag _ .negative _ (by decide))

/-- A pulled status may change every flag; it comes with Unused 1 and Break 0 (R238, R256). -/
theorem changesOnly_writeP_pulledStatus (v : Byte) :
    ChangesOnly [] [.carry, .zero, .interruptDisable, .decimal, .break, .overflow, .negative] false s
      (s.writeP (pulledStatus v)) := by
  refine changesOnly_of_status s (by simp [KeepsRegisters]) rfl ⟨by simp, fun f hf hu => ?_⟩
    (fun _ => by simp)
  cases f <;> simp at hf hu

/-! The stack and the word reads. -/

theorem changesOnly_push (v : Byte) : ChangesOnly [.sp] [] true s (s.push v) :=
  (changesOnly_busWrite s _ v).trans (changesOnly_setSp _ _)

theorem changesOnly_pull : ChangesOnly [.sp] [] false s s.pull.2 :=
  (changesOnly_setSp s _).trans (changesOnly_busRead _ _)

theorem changesOnly_pushWord (w : Addr) : ChangesOnly [.sp] [] true s (s.pushWord w) :=
  ((changesOnly_push s _).trans (changesOnly_push _ _)).mono (by decide) (by decide)

theorem changesOnly_pullWord : ChangesOnly [.sp] [] false s s.pullWord.2 :=
  ((changesOnly_pull s).trans (changesOnly_pull _)).mono (by decide) (by decide)

theorem changesOnly_pullStatus :
    ChangesOnly [.sp] [.carry, .zero, .interruptDisable, .decimal, .break, .overflow, .negative]
      false s s.pullStatus :=
  (changesOnly_pull s).trans (changesOnly_writeP_pulledStatus _ _)

theorem changesOnly_readPair (lo hi : Addr) : ChangesOnly [] [] false s (s.readPair lo hi).2 :=
  (changesOnly_busRead s lo).trans (changesOnly_busRead _ hi)

/-! The actions: what each may write, as R29's table lists it. -/

theorem changesOnly_loadA (o : Operand) :
    ChangesOnly [.a] [.zero, .negative] false s (loadA o s) :=
  (changesOnly_operand s o).trans ((changesOnly_setA _ _).trans (changesOnly_setZN _ _))

theorem changesOnly_loadX (o : Operand) :
    ChangesOnly [.x] [.zero, .negative] false s (loadX o s) :=
  (changesOnly_operand s o).trans ((changesOnly_setX _ _).trans (changesOnly_setZN _ _))

theorem changesOnly_loadY (o : Operand) :
    ChangesOnly [.y] [.zero, .negative] false s (loadY o s) :=
  (changesOnly_operand s o).trans ((changesOnly_setY _ _).trans (changesOnly_setZN _ _))

theorem changesOnly_storeTo (m : MemMode) (v : Byte) : ChangesOnly [] [] true s (storeTo m v s) :=
  (changesOnly_address s m).trans (changesOnly_busWrite _ _ v)

theorem changesOnly_modifyAt (m : MemMode) (g : Byte → Byte × Bool) :
    ChangesOnly [] [] true s (modifyAt m g s).2 :=
  (changesOnly_address s m).trans ((changesOnly_busRead _ _).trans (changesOnly_busWrite _ _ _))

theorem changesOnly_setAlu (r : AluResult) :
    ChangesOnly [.a] [.carry, .overflow, .zero, .negative] false s (s.setAlu r) :=
  (changesOnly_setFlag s .carry _ (by decide)).trans ((changesOnly_setA _ _).trans
    ((changesOnly_setFlag _ .overflow _ (by decide)).trans (changesOnly_setZN _ _)))

theorem changesOnly_addTo (o : Operand) :
    ChangesOnly [.a] [.carry, .overflow, .zero, .negative] false s (addTo o s) :=
  (changesOnly_operand s o).trans (changesOnly_setAlu _ _)

theorem changesOnly_subFrom (o : Operand) :
    ChangesOnly [.a] [.carry, .overflow, .zero, .negative] false s (subFrom o s) :=
  (changesOnly_operand s o).trans (changesOnly_setAlu _ _)

theorem changesOnly_logicA (f : Byte → Byte → Byte) (o : Operand) :
    ChangesOnly [.a] [.zero, .negative] false s (logicA f o s) :=
  (changesOnly_operand s o).trans ((changesOnly_setA _ _).trans (changesOnly_setZN _ _))

theorem changesOnly_testBits (o : Operand) :
    ChangesOnly [] [.zero, .negative, .overflow] false s (testBits o s) :=
  (changesOnly_operand s o).trans ((changesOnly_setFlag _ .zero _ (by decide)).trans
    ((changesOnly_setFlag _ .negative _ (by decide)).trans
      (changesOnly_setFlag _ .overflow _ (by decide))))

theorem changesOnly_shiftA (f : Byte → Byte × Bool) :
    ChangesOnly [.a] [.carry, .zero, .negative] false s (shiftA f s) :=
  (changesOnly_setA s _).trans
    ((changesOnly_setFlag _ .carry _ (by decide)).trans (changesOnly_setZN _ _))

theorem changesOnly_shiftMemory (f : Byte → Byte × Bool) (m : MemMode) :
    ChangesOnly [] [.carry, .zero, .negative] true s (shiftMemory f m s) :=
  (changesOnly_modifyAt s m f).trans
    ((changesOnly_setFlag _ .carry _ (by decide)).trans (changesOnly_setZN _ _))

theorem changesOnly_stepMemory (f : Byte → Byte) (m : MemMode) :
    ChangesOnly [] [.zero, .negative] true s (stepMemory f m s) :=
  (changesOnly_modifyAt s m _).trans (changesOnly_setZN _ _)

theorem changesOnly_compare (r v : Byte) :
    ChangesOnly [] [.carry, .zero, .negative] false s (s.compare r v) :=
  (changesOnly_setFlag s .carry _ (by decide)).trans
    ((changesOnly_setFlag _ .zero _ (by decide)).trans
      (changesOnly_setFlag _ .negative _ (by decide)))

theorem changesOnly_compareA (o : Operand) :
    ChangesOnly [] [.carry, .zero, .negative] false s (compareA o s) :=
  (changesOnly_operand s o).trans (changesOnly_compare _ _ _)

theorem changesOnly_compareX (o : Operand) :
    ChangesOnly [] [.carry, .zero, .negative] false s (compareX o s) :=
  (changesOnly_operand s o).trans (changesOnly_compare _ _ _)

theorem changesOnly_compareY (o : Operand) :
    ChangesOnly [] [.carry, .zero, .negative] false s (compareY o s) :=
  (changesOnly_operand s o).trans (changesOnly_compare _ _ _)

theorem changesOnly_branchIf (c : Bool) (off : Byte) :
    ChangesOnly [.pc] [] false s (branchIf c off s) := by
  obtain ⟨-, hnot⟩ | ⟨-, htaken⟩ := branchIf_cases s c off
  · rw [hnot]
    exact (changesOnly_refl s).mono (by decide) (by decide)
  · rw [htaken]
    exact changesOnly_of_registers s rfl rfl (by simp [KeepsRegisters])

theorem changesOnly_jumpIndirect (w : Addr) : ChangesOnly [.pc] [] false s (jumpIndirect w s) :=
  (changesOnly_readPair s _ _).trans (changesOnly_setPc _ _)

theorem changesOnly_callSubroutine (w : Addr) :
    ChangesOnly [.pc, .sp] [] true s (callSubroutine w s) :=
  ((changesOnly_pushWord s _).trans (changesOnly_setPc _ w)).mono (by decide) (by decide)

theorem changesOnly_returnFromSubroutine :
    ChangesOnly [.pc, .sp] [] false s (returnFromSubroutine s) :=
  ((changesOnly_pullWord s).trans (changesOnly_setPc _ _)).mono (by decide) (by decide)

theorem changesOnly_pullA : ChangesOnly [.a, .sp] [.zero, .negative] false s (pullA s) :=
  ((changesOnly_pull s).trans ((changesOnly_setA _ _).trans (changesOnly_setZN _ _))).mono
    (by decide) (by decide)

theorem changesOnly_takeTrap (w : Addr) :
    ChangesOnly [.pc, .sp] [.interruptDisable] true s (s.takeTrap w) :=
  (((changesOnly_pushWord s w).trans (changesOnly_push _ _)).trans
    ((changesOnly_setFlag _ .interruptDisable true (by decide)).trans
      ((changesOnly_readPair _ _ _).trans (changesOnly_setPc _ _)))).mono (by decide) (by decide)

theorem changesOnly_returnFromTrap :
    ChangesOnly [.pc, .sp]
      [.carry, .zero, .interruptDisable, .decimal, .break, .overflow, .negative] false s
      s.returnFromTrap :=
  ((changesOnly_pullStatus s).trans ((changesOnly_pullWord _).trans (changesOnly_setPc _ _))).mono
    (by decide) (by decide)

/-! Every instruction. -/

/-- Every instruction completes and changes only what R29's table lists for it: each arm is the action
of its mnemonic. -/
theorem exec_changesOnly (i : Instr) : ∃ t, exec i s = .next t ∧
    ChangesOnly (writtenRegisters i) (writtenFlags i.mnemonic) (!storesNothing i) s t := by
  cases i
  case ldaImmediate | ldaZeroPage | ldaZeroPageX | ldaAbsolute | ldaAbsoluteX | ldaAbsoluteY
      | ldaIndexedIndirect | ldaIndirectIndexed =>
    exact ⟨_, rfl, changesOnly_loadA s _⟩
  case ldxImmediate | ldxZeroPage | ldxZeroPageY | ldxAbsolute | ldxAbsoluteY =>
    exact ⟨_, rfl, changesOnly_loadX s _⟩
  case ldyImmediate | ldyZeroPage | ldyZeroPageX | ldyAbsolute | ldyAbsoluteX =>
    exact ⟨_, rfl, changesOnly_loadY s _⟩
  case staZeroPage | staZeroPageX | staAbsolute | staAbsoluteX | staAbsoluteY | staIndexedIndirect
      | staIndirectIndexed | stxZeroPage | stxZeroPageY | stxAbsolute | styZeroPage | styZeroPageX
      | styAbsolute =>
    exact ⟨_, rfl, changesOnly_storeTo s _ _⟩
  case tax | tsx | inx | dex => exact ⟨_, rfl, (changesOnly_setX s _).trans (changesOnly_setZN _ _)⟩
  case tay | iny | dey => exact ⟨_, rfl, (changesOnly_setY s _).trans (changesOnly_setZN _ _)⟩
  case txa | tya => exact ⟨_, rfl, (changesOnly_setA s _).trans (changesOnly_setZN _ _)⟩
  case txs => exact ⟨_, rfl, changesOnly_setSp s _⟩
  case adcImmediate | adcZeroPage | adcZeroPageX | adcAbsolute | adcAbsoluteX | adcAbsoluteY
      | adcIndexedIndirect | adcIndirectIndexed =>
    exact ⟨_, rfl, changesOnly_addTo s _⟩
  case sbcImmediate | sbcZeroPage | sbcZeroPageX | sbcAbsolute | sbcAbsoluteX | sbcAbsoluteY
      | sbcIndexedIndirect | sbcIndirectIndexed =>
    exact ⟨_, rfl, changesOnly_subFrom s _⟩
  case andImmediate | andZeroPage | andZeroPageX | andAbsolute | andAbsoluteX | andAbsoluteY
      | andIndexedIndirect | andIndirectIndexed | oraImmediate | oraZeroPage | oraZeroPageX
      | oraAbsolute | oraAbsoluteX | oraAbsoluteY | oraIndexedIndirect | oraIndirectIndexed
      | eorImmediate | eorZeroPage | eorZeroPageX | eorAbsolute | eorAbsoluteX | eorAbsoluteY
      | eorIndexedIndirect | eorIndirectIndexed =>
    exact ⟨_, rfl, changesOnly_logicA s _ _⟩
  case bitZeroPage | bitAbsolute => exact ⟨_, rfl, changesOnly_testBits s _⟩
  case aslAccumulator | lsrAccumulator | rolAccumulator | rorAccumulator =>
    exact ⟨_, rfl, changesOnly_shiftA s _⟩
  case aslZeroPage | aslZeroPageX | aslAbsolute | aslAbsoluteX | lsrZeroPage | lsrZeroPageX
      | lsrAbsolute | lsrAbsoluteX | rolZeroPage | rolZeroPageX | rolAbsolute | rolAbsoluteX
      | rorZeroPage | rorZeroPageX | rorAbsolute | rorAbsoluteX =>
    exact ⟨_, rfl, changesOnly_shiftMemory s _ _⟩
  case incZeroPage | incZeroPageX | incAbsolute | incAbsoluteX | decZeroPage | decZeroPageX
      | decAbsolute | decAbsoluteX =>
    exact ⟨_, rfl, changesOnly_stepMemory s _ _⟩
  case cmpImmediate | cmpZeroPage | cmpZeroPageX | cmpAbsolute | cmpAbsoluteX | cmpAbsoluteY
      | cmpIndexedIndirect | cmpIndirectIndexed =>
    exact ⟨_, rfl, changesOnly_compareA s _⟩
  case cpxImmediate | cpxZeroPage | cpxAbsolute => exact ⟨_, rfl, changesOnly_compareX s _⟩
  case cpyImmediate | cpyZeroPage | cpyAbsolute => exact ⟨_, rfl, changesOnly_compareY s _⟩
  case bpl | bmi | bvc | bvs | bcc | bcs | bne | beq => exact ⟨_, rfl, changesOnly_branchIf s _ _⟩
  case jmpAbsolute => exact ⟨_, rfl, changesOnly_setPc s _⟩
  case jmpIndirect => exact ⟨_, rfl, changesOnly_jumpIndirect s _⟩
  case jsr => exact ⟨_, rfl, changesOnly_callSubroutine s _⟩
  case rts => exact ⟨_, rfl, changesOnly_returnFromSubroutine s⟩
  case pha | php => exact ⟨_, rfl, changesOnly_push s _⟩
  case pla => exact ⟨_, rfl, changesOnly_pullA s⟩
  case plp => exact ⟨_, rfl, changesOnly_pullStatus s⟩
  case clc | sec | cli | sei | cld | sed | clv =>
    exact ⟨_, rfl, changesOnly_setFlag s _ _ (by decide)⟩
  case brk => exact ⟨_, rfl, changesOnly_takeTrap s _⟩
  case rti => exact ⟨_, rfl, changesOnly_returnFromTrap s⟩
  case nop => exact ⟨_, rfl, changesOnly_refl s⟩

end Parts

/-- Settles O13: the registers and flags of what every instruction changes. -/
theorem onlyListedStateIsWritten : Obligations.OnlyListedStateIsWritten := by
  intro i s
  obtain ⟨t, hexec, hchanges⟩ := exec_changesOnly s i
  exact ⟨t, hexec, hchanges.registers, hchanges.flags⟩

/-- Settles O14: the memory of what every instruction changes. -/
theorem onlyListedInstructionsStore : Obligations.OnlyListedInstructionsStore := by
  intro i s hstores
  obtain ⟨t, hexec, hchanges⟩ := exec_changesOnly s i
  exact ⟨t, hexec, hchanges.memory (by rw [hstores]; rfl)⟩

/-! The invariant. -/

/-- Clearing the transient booleans and fetching the opcode byte keep a lawful state lawful. -/
theorem inv_opcodeFetch {s : State} (h : s.Inv) : s.clearTransients.fetchByte.2.Inv := by
  obtain ⟨hunused, hbreak, hwf⟩ := h
  exact ⟨hunused, hbreak, fetchByte_wf s.clearTransients hwf⟩

theorem inv_fetchOperands {s : State} (sh : OperandShape) (h : s.Inv) :
    (fetchOperands sh s).2.Inv := by
  obtain ⟨hunused, hbreak, hwf⟩ := h
  obtain ⟨hp, -⟩ := fetchOperands_frame sh s
  exact ⟨(congrArg (flagOf · _) hp).trans hunused, (congrArg (flagOf · _) hp).trans hbreak,
    fetchOperands_wf sh s hwf⟩

theorem inv_exec {s t : State} {i : Instr} (h : s.Inv) (hexec : exec i s = .next t) : t.Inv := by
  obtain ⟨u, hexec', hchanges⟩ := exec_changesOnly s i
  obtain rfl : t = u := Host.Outcome.next.inj (hexec.symm.trans hexec')
  exact hchanges.inv h

/-- Settles O10: the fetches and the instruction each keep the invariant. -/
theorem stepKeepsStateLawful : Obligations.StepKeepsStateLawful := by
  intro s t h hstep
  obtain ⟨op, -, -, hfault⟩ | ⟨e, u, -, hexec, hnext⟩ := step_cases s
  · cases hstep.symm.trans hfault
  · obtain rfl : t = u := Host.Outcome.next.inj (hstep.symm.trans hnext)
    exact inv_exec (inv_fetchOperands e.shape (inv_opcodeFetch h)) hexec

/-- Everything a step can report to the host: the IllegalOpcode failure after the opcode fetch, or the
instruction fetched and its cycle count (R120, R270). -/
theorem hostStep_cases (s : State) :
    (dispatch (s.bus.peek s.pc) = none ∧ hostStep s =
      .failed (.illegalOpcode (s.bus.peek s.pc)) s.clearTransients.fetchByte.2) ∨
    (∃ e t, dispatch (s.bus.peek s.pc) = some e ∧
      exec (fetchOperands e.shape s.clearTransients.fetchByte.2).1
        (fetchOperands e.shape s.clearTransients.fetchByte.2).2 = .next t ∧
      hostStep s = .done (stepCycles e t) t) := by
  cases h : dispatch (s.bus.peek s.pc) with
  | none => exact .inl ⟨rfl, hostStep_illegal h⟩
  | some e =>
    obtain ⟨t, hexec, hstep⟩ := hostStep_legal h
    exact .inr ⟨e, t, rfl, hexec, hstep⟩

/-- Settles O12: a failing step is its opcode fetch. -/
theorem failedStepKeepsStateLawful : Obligations.FailedStepKeepsStateLawful := by
  intro s t r h hstep
  obtain ⟨-, hfailed⟩ | ⟨e, u, -, -, hdone⟩ := hostStep_cases s
  · obtain ⟨-, rfl⟩ := StepReport.failed.inj (hstep.symm.trans hfailed)
    exact inv_opcodeFetch h
  · cases hstep.symm.trans hdone

/-- Settles O11: P is 0x24, and the bus is 65536 bytes of RAM with no device. -/
theorem resetIsLawful : Obligations.ResetIsLawful := ⟨by decide, by decide, by decide⟩

end Sys2Proof.Machine

/-! PROOFS across the families, part 3: the step (40_addressing.md section 1), its failure
(60_exceptions.md section 1), its cycle count (70_reset_and_hazards.md section 4), and the runs the
host makes of it (60_exceptions.md sections 5 and 7). -/

namespace Sys2Proof.Machine
open Says

/-! The step and the bytes it fetches. -/

@[simp] theorem length_fetchBytes (n : Nat) (s : State) : (fetchBytes n s).1.length = n := by
  induction n generalizing s with
  | zero => rfl
  | succ n ih => simp [fetchBytes, ih]

/-- An entry takes from the bytes after the opcode as many as its shape says. -/
theorem length_of_assemble {e : DispatchEntry} {tail rest : List Byte} {i : Instr}
    (h : assemble e tail = .ok (i, rest)) : tail.length = e.shape.count + rest.length := by
  unfold assemble at h
  split at h <;> cases h
  · next hshape => rw [hshape, OperandShape.count, Nat.zero_add]
  · next hshape => rw [hshape, OperandShape.count, List.length_cons, Nat.add_comm]
  · next hshape => rw [hshape, OperandShape.count, List.length_cons, List.length_cons]; omega

/-- Where the fetched operand bytes assemble to `i`, the operand fetches of the step make `i` and leave
the state these fetches leave (R120 step 4). -/
theorem fetchOperands_of_assemble {e : DispatchEntry} {s : State} {i : Instr} {rest : List Byte}
    (h : assemble e (fetchBytes e.shape.count s).1 = .ok (i, rest)) :
    fetchOperands e.shape s = (i, (fetchBytes e.shape.count s).2) := by
  obtain ⟨op, m, md, shape, base, pageCross, branch⟩ := e
  cases shape <;> cases h <;> rfl

/-- A step of a byte with an entry is the instruction its operand fetches make (R120). -/
theorem step_of_dispatch {s : State} {e : DispatchEntry}
    (h : dispatch (s.bus.peek s.pc) = some e) :
    step s = exec (fetchOperands e.shape s.clearTransients.fetchByte.2).1
      (fetchOperands e.shape s.clearTransients.fetchByte.2).2 := by
  obtain ⟨t, hexec, hstep⟩ := hostStep_legal h
  rw [hexec]
  exact congrArg StepReport.outcome hstep

/-- Settles O6: the first byte selects the entry, and the others are as many as its shape takes. -/
theorem stepRunsDecodedInstruction : Obligations.StepRunsDecodedInstruction := by
  intro s i h
  rw [encode, List.length_cons] at h ⊢
  obtain ⟨op, tail, e, hbytes, hdispatch, hassemble⟩ := decode_eq_ok h
  obtain ⟨rfl, rfl⟩ := List.cons.inj hbytes
  have hcount : i.operandBytes.length = e.shape.count := by
    simpa using length_of_assemble hassemble
  rw [hcount] at hassemble ⊢
  have hstep := step_of_dispatch (s := s) hdispatch
  rw [fetchOperands_of_assemble hassemble] at hstep
  exact hstep

/-- Fetches in plain RAM give its bytes and change PC alone (R51, R121). -/
theorem fetchBytes_of_isRam {bs : List Byte} {s : State}
    (h : ∀ k < bs.length, s.bus.isRam (s.pc + BitVec.ofNat 16 k) = true ∧
      bs[k]? = some (s.bus.ramByte (s.pc + BitVec.ofNat 16 k).toNat)) :
    fetchBytes bs.length s = (bs, s.setPc (s.pc + BitVec.ofNat 16 bs.length)) := by
  induction bs generalizing s with
  | nil => simp [fetchBytes, State.setPc]
  | cons b bs ih =>
    have hshift : ∀ k, s.pc + 1#16 + BitVec.ofNat 16 k = s.pc + BitVec.ofNat 16 (k + 1) := by
      intro k
      rw [BitVec.add_assoc, BitVec.add_comm 1#16, BitVec.ofNat_add]
    obtain ⟨hram, hbyte⟩ := h 0 (by simp)
    have hfetch : s.fetchByte = (b, s.setPc (s.pc + 1#16)) := by
      simp only [BitVec.add_zero, List.getElem?_cons_zero, Option.some.injEq] at hram hbyte
      simp [State.fetchByte, State.busRead, read_of_isRam hram, hbyte, State.setBus, State.setPc]
    have hrest := ih (s := s.setPc (s.pc + 1#16)) fun k hk => by
      simpa [hshift] using h (k + 1) (by simpa using hk)
    simp only [List.length_cons, fetchBytes, hfetch, hrest, setPc_pc, hshift]
    rfl

/-- Settles O7: the fetches read the encoding, which decodes to the instruction. -/
theorem stepInPlainRamRunsInstruction : Obligations.StepInPlainRamRunsInstruction := by
  intro s i h
  have hfetch := fetchBytes_of_isRam (s := s.clearTransients) h
  have hdecode : decode (fetchBytes (encode i).length s.clearTransients).1 = .ok (i, []) := by
    simpa [hfetch] using decode_encode_append i []
  rw [stepRunsDecodedInstruction s i hdecode, hfetch]
  rfl

/-- Settles O8: the failing step is one fetch after the transient booleans are cleared. -/
theorem illegalOpcodeLeavesOnlyPcAdvanced : Obligations.IllegalOpcodeLeavesOnlyPcAdvanced := by
  intro s h
  refine ⟨step_of_dispatch_none h, _, hostStep_illegal h, ?_, rfl, ?_, rfl, rfl, rfl⟩
  · exact BitVec.toNat_add s.pc 1#16
  · simp [KeepsRegisters, State.clearTransients]

/-! The cycle count. -/

/-- The entries whose count is 7 (R320). -/
def CostsSeven (e : DispatchEntry) : Prop :=
  e.mnemonic = .brk ∨ (e.mode = .absoluteX ∧ e.mnemonic ∈ [.asl, .lsr, .rol, .ror, .inc, .dec])

/-- What R321's table says of an entry's greatest count: 7 flat for the entries R320 names, and 2 to 6
with the adders for every other. -/
def CountBounded (e : DispatchEntry) : Prop :=
  2 ≤ e.baseCycles ∧
    ((CostsSeven e ∧ e.baseCycles = 7 ∧ e.pageCrossAdder = false ∧ e.branchAdder = false) ∨
      (¬CostsSeven e ∧
        e.baseCycles + (if e.pageCrossAdder then 1 else 0) + (if e.branchAdder then 2 else 0) ≤ 6))

theorem countBounded_of_mem : ∀ e ∈ dispatchTable, CountBounded e := by
  unfold CountBounded CostsSeven
  exact forall_mem_dispatchTable (by decide) (by decide) (by decide) (by decide) (by decide)
    (by decide) (by decide) (by decide)

/-- The count of R320 as a number: base and adders. -/
def cycleSum (e : DispatchEntry) (s : State) : Nat :=
  e.baseCycles + (if e.pageCrossAdder = true ∧ s.pageCrossed = true then 1 else 0) +
    (if e.branchAdder = true ∧ s.branchTaken = true then
      1 + (if s.pageCrossed = true then 1 else 0) else 0)

/-- No count exceeds the base with both adders charged in full. -/
theorem cycleSum_le (e : DispatchEntry) (s : State) : cycleSum e s ≤
    e.baseCycles + (if e.pageCrossAdder then 1 else 0) + (if e.branchAdder then 2 else 0) := by
  unfold cycleSum
  grind

/-- The count lies within 2 and 7 and is 7 exactly for the entries R320 names. -/
theorem cycleSum_bounds {e : DispatchEntry} (h : CountBounded e) (s : State) :
    2 ≤ cycleSum e s ∧ cycleSum e s ≤ 7 ∧ (cycleSum e s = 7 ↔ CostsSeven e) := by
  obtain ⟨hbase, ⟨hseven, hcount, hpage, hbranch⟩ | ⟨hnot, hcount⟩⟩ := h
  · simp [cycleSum, hcount, hpage, hbranch, hseven]
  · have hle := (cycleSum_le e s).trans hcount
    have hge : 2 ≤ cycleSum e s := by unfold cycleSum; omega
    exact ⟨hge, by omega, iff_of_false (by omega) hnot⟩

/-- The 32 bits of the step's count hold the number. -/
theorem toNat_stepCycles {e : DispatchEntry} (h : CountBounded e) (s : State) :
    (stepCycles e s).toNat = cycleSum e s := by
  obtain ⟨-, hle, -⟩ := cycleSum_bounds h s
  have hsum : stepCycles e s = BitVec.ofNat 32 (cycleSum e s) := by simp [stepCycles, cycleSum]
  rw [hsum, BitVec.toNat_ofNat]
  omega

/-- A step that succeeds returns the count of its entry, a row of the table. -/
theorem cycles_of_done {s t : State} {c : BitVec 32} (h : hostStep s = .done c t) :
    ∃ e, dispatch (s.bus.peek s.pc) = some e ∧ CountBounded e ∧ c.toNat = cycleSum e t := by
  obtain ⟨-, hfailed⟩ | ⟨e, u, hdispatch, -, hdone⟩ := hostStep_cases s
  · cases h.symm.trans hfailed
  · obtain ⟨rfl, rfl⟩ := StepReport.done.inj (h.symm.trans hdone)
    have hbounded := countBounded_of_mem e (mem_dispatchTable_of_dispatch hdispatch).1
    exact ⟨e, hdispatch, hbounded, toNat_stepCycles hbounded t⟩

/-- The opcode bytes of the entries whose count is 7. -/
theorem exists_costsSeven {op : Byte}
    (h : op ∈ [0x00#8, 0x1E#8, 0x5E#8, 0x3E#8, 0x7E#8, 0xFE#8, 0xDE#8]) :
    ∃ e, dispatch op = some e ∧ CostsSeven e := by
  simp only [List.mem_cons, List.not_mem_nil, or_false] at h
  obtain rfl | rfl | rfl | rfl | rfl | rfl | rfl := h
  · exact ⟨_, rfl, .inl rfl⟩
  all_goals exact ⟨_, rfl, .inr ⟨rfl, by decide⟩⟩

/-- Settles O9: the count of the entry, and its bounds from the table. -/
theorem cycleCountFormula : Obligations.CycleCountFormula := by
  refine fun s => ⟨fun c t hdone => ?formula, fun hmem => ?seven⟩
  case formula =>
    obtain ⟨e, hdispatch, hbounded, hcount⟩ := cycles_of_done hdone
    obtain ⟨-, hle, hseven⟩ := cycleSum_bounds hbounded t
    exact ⟨e, hdispatch, hcount, hcount ▸ hle, hcount ▸ hseven⟩
  case seven =>
    obtain ⟨e, hdispatch, hcosts⟩ := exists_costsSeven hmem
    obtain ⟨t, -, hdone⟩ := hostStep_legal hdispatch
    have hbounded := countBounded_of_mem e (mem_dispatchTable_of_dispatch hdispatch).1
    obtain ⟨-, -, hseven⟩ := cycleSum_bounds hbounded t
    have hcount : stepCycles e t = 7#32 := BitVec.eq_of_toNat_eq
      ((toNat_stepCycles hbounded t).trans (hseven.mpr hcosts))
    exact ⟨t, hcount ▸ hdone⟩

/-! Runs. -/

section Runs
variable {σ : Type} {keepGoing : RunPredicate σ} {total : BitVec 64} {host after : σ} {s t : State}

/-- With the predicate false the loop returns what it has accumulated, whatever its bound (R284). -/
theorem runWhile_of_false (n : Nat)
    (h : keepGoing host { cycles := total, state := s } = (false, after)) :
    runWhile n keepGoing total host s = .stopped total after s := by
  cases n <;> simp only [runWhile, h]

/-- With the predicate true a successful step adds its cycles and the loop goes on (R284). -/
theorem runWhile_of_done {c : BitVec 32} (n : Nat)
    (h : keepGoing host { cycles := total, state := s } = (true, after))
    (hstep : hostStep s = .done c t) :
    runWhile (n + 1) keepGoing total host s =
      runWhile n keepGoing (total + BitVec.ofNat 64 c.toNat) after t := by
  have hwiden : c.setWidth 64 = BitVec.ofNat 64 c.toNat := (BitVec.ofNat_toNat 64 c).symm
  simp only [runWhile, h, hstep, hwiden]

/-- With the predicate true a failing step ends the run (R273). -/
theorem runWhile_of_failed {r : Fault} (n : Nat)
    (h : keepGoing host { cycles := total, state := s } = (true, after))
    (hstep : hostStep s = .failed r t) :
    runWhile (n + 1) keepGoing total host s = .failed r after t := by
  simp only [runWhile, h, hstep]

end Runs

/-- Settles O22: the loop's cases. -/
theorem runLoopsWhilePredicateHolds : Obligations.RunLoopsWhilePredicateHolds := by
  intro σ n keepGoing total host after s
  exact ⟨rfl, runWhile_of_false n, runWhile_of_false n,
    fun h => ⟨fun c t => runWhile_of_done n h, fun r t => runWhile_of_failed n h⟩⟩

/-- With the budget spent the loop returns its total. -/
theorem runWhile_of_budget_spent {limit total : BitVec 64} (n : Nat) (s : State)
    (h : limit.toNat ≤ total.toNat) :
    runWhile n (cycleBudget limit) total () s = .stopped total () s :=
  runWhile_of_false n (congrArg (·, ()) (decide_eq_false (Nat.not_lt.mpr h)))

/-- The budget's loop from any total that a step can have passed the budget with: as many steps as
cycles are missing suffice, since each step adds 2 to 7 cycles. -/
theorem cycleBudget_ends {limit total : BitVec 64} {n : Nat} {s : State}
    (hlimit : limit.toNat ≤ 2 ^ 64 - 7) (hbound : limit.toNat ≤ total.toNat + n)
    (htotal : total.toNat ≤ limit.toNat + 6) :
    (∃ r t, runWhile n (cycleBudget limit) total () s = .failed r () t) ∨
    (∃ c t, runWhile n (cycleBudget limit) total () s = .stopped c () t ∧
      limit.toNat ≤ c.toNat ∧ c.toNat ≤ limit.toNat + 6) := by
  induction n generalizing total s with
  | zero => exact .inr ⟨total, s, runWhile_of_budget_spent 0 s hbound, hbound, htotal⟩
  | succ n ih =>
    by_cases hlt : total.toNat < limit.toNat
    · have hgo : cycleBudget limit () { cycles := total, state := s } = (true, ()) :=
        congrArg (·, ()) (decide_eq_true hlt)
      obtain ⟨-, hfailed⟩ | ⟨e, t, -, -, hdone⟩ := hostStep_cases s
      · exact .inl ⟨_, _, runWhile_of_failed n hgo hfailed⟩
      · obtain ⟨e', -, hbounded, hcount⟩ := cycles_of_done hdone
        obtain ⟨hge, hle, -⟩ := cycleSum_bounds hbounded t
        have hsum : (total + BitVec.ofNat 64 (stepCycles e t).toNat).toNat =
            total.toNat + (stepCycles e t).toNat := by
          rw [BitVec.toNat_add, BitVec.toNat_ofNat]
          omega
        rw [runWhile_of_done n hgo hdone]
        exact ih (by omega) (by omega)
    · have hspent := Nat.not_lt.mp hlt
      exact .inr ⟨total, s, runWhile_of_budget_spent (n + 1) s hspent, hspent, htotal⟩

/-- Settles O59: the loop from a total of 0. -/
theorem cycleBudgetEndsTheRun : Obligations.CycleBudgetEndsTheRun := by
  intro limit n s hlimit hbound
  exact cycleBudget_ends hlimit (by simpa using hbound) (Nat.zero_le _)

end Sys2Proof.Machine

/-! PROOFS across the families, part 4: the host's operations (20_memory.md section 3), the Console
Bridge (60_exceptions.md section 8), reset (70_reset_and_hazards.md), and the addressing modes
(40_addressing.md section 3). -/

namespace Sys2Proof.Machine
open Says

/-! The Console Bridge. -/

/-- The parts of a lawful bridge: three distinct addresses (D14). -/
theorem bridge_wf_iff (b : Bridge) : b.wf = true ↔
    b.outAddr ≠ b.statusAddr ∧ b.outAddr ≠ b.dataAddr ∧ b.statusAddr ≠ b.dataAddr := by
  simp [Bridge.wf, and_assoc]

theorem bridge_handles_iff (b : Bridge) (a : Addr) :
    b.handles a = true ↔ a = b.outAddr ∨ a = b.statusAddr ∨ a = b.dataAddr := by
  simp [Bridge.handles, or_assoc]

/-- A read of OutputData (R291). -/
theorem bridge_read_outAddr (b : Bridge) : b.read b.outAddr = (0x00#8, b) := by
  simp [Bridge.read]

section Bridge
variable {b : Bridge} (h : b.wf = true)
include h

/-- A read of InputStatus, the FIFO being the one the producer has left by then (R293). -/
theorem bridge_read_statusAddr : b.read b.statusAddr = b.arrive.readStatus := by
  obtain ⟨hos, -, -⟩ := (bridge_wf_iff b).mp h
  simp [Bridge.read, hos.symm]

/-- A read of InputData, the FIFO being the one the producer has left by then (R294). -/
theorem bridge_read_dataAddr : b.read b.dataAddr = b.arrive.readData := by
  obtain ⟨-, hod, hsd⟩ := (bridge_wf_iff b).mp h
  simp [Bridge.read, hod.symm, hsd.symm]

end Bridge

/-- Settles O17: each address reaches its own branch of the bridge's read; the FIFO and then the
fallback decide what InputData gives. -/
theorem bridgeReads : Obligations.BridgeReads := by
  intro b h
  rw [bridge_read_statusAddr h, bridge_read_dataAddr h]
  refine ⟨bridge_handles_iff b, bridge_read_outAddr b, ?status, fun c queue hfifo => ?queued,
    fun hfifo => ⟨fun hfallback => ?none, fun later hfallback => ?silent,
      fun c later hfallback => ?answered⟩, fun harrivals => ?nothing,
    fun chunk later harrivals => ?chunk⟩
  case status => simp [Bridge.readStatus]
  case queued => simp [Bridge.readData, hfifo]
  case none | silent | answered => simp [Bridge.readData, hfifo, hfallback]
  case nothing | chunk => simp [Bridge.arrive, harrivals]

/-- Settles O18: only OutputData reaches the sink. -/
theorem bridgeWrites : Obligations.BridgeWrites := by
  refine fun b v => ⟨if_pos rfl, fun h => ?_⟩
  obtain ⟨hos, hod, -⟩ := (bridge_wf_iff b).mp h
  exact ⟨if_neg hos.symm, if_neg hod.symm⟩

/-! Construction, `clear`, `attach` and `submit_input`. -/

theorem new_of_range {size : Nat} (init : Nat → Byte) (h : 1 ≤ size ∧ size ≤ 65536) :
    Bus.new size init = .ok (Bus.bare size (Memory.ofInit size init)) := if_pos h

theorem bare_ofInit_wf {size : Nat} (init : Nat → Byte) (h : 1 ≤ size ∧ size ≤ 65536) :
    (Bus.bare size (Memory.ofInit size init)).wf = true :=
  (bus_wf_iff _).mpr ⟨h.1, h.2, ofInit_wf size init, ofInit_below size init, rfl⟩

theorem clear_wf {b : Bus} (h : b.wf = true) : b.clear.wf = true := by
  obtain ⟨hpos, hmax, -, -, hdevices⟩ := (bus_wf_iff b).mp h
  exact (bus_wf_iff _).mpr ⟨hpos, hmax, rfl, rfl, hdevices⟩

theorem load_wf {b b' : Bus} {start : Addr} {data : List Byte} (h : b.wf = true)
    (hload : b.load start data = .ok b') : b'.wf = true := by
  obtain ⟨hpos, hmax, hmem, hbelow, hdevices⟩ := (bus_wf_iff b).mp h
  by_cases hfits : start.toNat + data.length ≤ b.ramSize
  · obtain rfl := Except.ok.inj ((load_of_fits hfits).symm.trans hload)
    exact (bus_wf_iff _).mpr ⟨hpos, hmax, writeAll_wf _ data hmem, writeAll_below data hbelow hfits,
      hdevices⟩
  · cases (load_of_overruns (Nat.not_le.mp hfits)).symm.trans hload

/-- A lawful device is appended (R59). -/
theorem attach_of_wf (b : Bus) {d : Device} (h : d.wf = true) :
    b.attach (some d) = .ok { b with devices := b.devices ++ [d] } := if_pos h

/-- A bridge with coinciding addresses is refused (D14). -/
theorem attach_of_not_wf (b : Bus) {d : Device} (h : ¬ d.wf = true) :
    b.attach (some d) = .error .equalBridgeAddresses := if_neg h

/-- New devices that are all lawful keep the bus lawful. -/
theorem wf_of_devices {b : Bus} {ds : List Device} (h : b.wf = true)
    (hds : ds.all Device.wf = true) : ({ b with devices := ds } : Bus).wf = true := by
  obtain ⟨hpos, hmax, hmem, hbelow, -⟩ := (bus_wf_iff b).mp h
  exact (bus_wf_iff _).mpr ⟨hpos, hmax, hmem, hbelow, hds⟩

theorem devices_wf {b : Bus} (h : b.wf = true) : b.devices.all Device.wf = true := by
  obtain ⟨-, -, -, -, hdevices⟩ := (bus_wf_iff b).mp h
  exact hdevices

theorem attach_wf {b b' : Bus} {d : Option Device} (h : b.wf = true)
    (hattach : b.attach d = .ok b') : b'.wf = true := by
  cases d with
  | none => cases hattach
  | some d =>
    by_cases hd : d.wf = true
    · obtain rfl := Except.ok.inj ((attach_of_wf b hd).symm.trans hattach)
      exact wf_of_devices h (by simp [devices_wf h, hd])
    · cases (attach_of_not_wf b hd).symm.trans hattach

theorem submitInput_wf {b b' : Bus} {k : Nat} {text : List Nat} (h : b.wf = true)
    (hsubmit : b.submitInput k text = .ok b') : b'.wf = true := by
  unfold Bus.submitInput at hsubmit
  split at hsubmit
  · next br hk =>
    split at hsubmit
    · obtain rfl := Except.ok.inj hsubmit
      have hall := List.all_eq_true.mp (devices_wf h)
      have hbridge : br.wf = true := hall (.console br) (List.mem_of_getElem? hk)
      refine wf_of_devices h (List.all_eq_true.mpr fun d hd => ?_)
      obtain hold | rfl := List.mem_or_eq_of_mem_set hd
      · exact hall d hold
      · exact hbridge
    · cases hsubmit
  · cases hsubmit

/-- Settles O19: what construction makes, and what each operation keeps. -/
theorem hostOperationsKeepBusLawful : Obligations.HostOperationsKeepBusLawful := by
  refine ⟨fun size init => ⟨fun hsize => ?_, fun hsize => if_neg hsize⟩, fun b h => ?_⟩
  · exact ⟨_, new_of_range init hsize, bare_ofInit_wf init hsize, rfl, rfl,
      fun k hk => read_ofInit size init hk⟩
  · exact ⟨clear_wf h, fun _ _ _ => load_wf h, fun _ _ => attach_wf h,
      fun _ _ _ => submitInput_wf h⟩

/-- Settles O21: RAM after `clear` is the empty list, and `attach` asks whether the device is
lawful. -/
theorem clearAndAttach : Obligations.ClearAndAttach := by
  refine fun b => ⟨fun k => rfl, rfl, rfl, rfl, fun d => attach_of_wf b, fun br hequal => ?_⟩
  refine attach_of_not_wf b fun hwf => ?_
  obtain ⟨hos, hod, hsd⟩ := (bridge_wf_iff br).mp hwf
  obtain h | h | h := hequal
  · exact hos h
  · exact hod h
  · exact hsd h

/-! Reset. -/

/-- Settles O23: the registers `resetCpu_fields` names, the flags of the byte 0x24, and two reads, which
store nothing. -/
theorem resetSetsRegisters : Obligations.ResetSetsRegisters := by
  intro s
  obtain ⟨ha, hx, hy, hsp, hp, hbus, hpc⟩ := resetCpu_fields s
  have hflag : ∀ f, s.resetCpu.flag f = flagOf 0x24#8 f := fun f => congrArg (flagOf · f) hp
  refine ⟨ha, hx, hy, hsp, hp, ⟨hflag _, hflag _, fun f hi hu => (hflag f).trans ?flags⟩, ?pc, hbus,
    keepsMemory_of_two_reads hbus⟩
  case flags => revert hi hu; cases f <;> decide
  case pc => rw [hpc, toNat_mkWord]

/-! The addressing modes. -/

/-- The index is added modulo 256 in page 0 (R128, R129). -/
theorem toNat_zeroPageIndexed (b i : Byte) :
    (zeroPageIndexed b i).toNat = (b.toNat + i.toNat) % 256 := by
  rw [zeroPageIndexed, zext16, BitVec.toNat_setWidth_of_le (by decide), BitVec.toNat_add]

theorem toNat_zext16 (b : Byte) : (zext16 b).toNat = b.toNat :=
  BitVec.toNat_setWidth_of_le (by decide)

/-- Settles O26: a byte extended to an address keeps its number. -/
theorem zeroPageModesStayInPageZero : Obligations.ZeroPageModesStayInPageZero :=
  fun s b => ⟨toNat_zext16 b, rfl, toNat_zeroPageIndexed b s.x, rfl, toNat_zeroPageIndexed b s.y,
    rfl⟩

/-- The index is added modulo 65536 (R132, R133, R136). -/
theorem toNat_indexAddress (w : Addr) (i : Byte) (s : State) :
    (indexAddress w i s).1.toNat = (w.toNat + i.toNat) % 65536 := by
  rw [indexAddress, BitVec.toNat_add, toNat_zext16]

/-- Indexing records whether the high byte changed and changes nothing else (R132, R145). -/
theorem indexAddress_state (w : Addr) (i : Byte) (s : State) :
    (indexAddress w i s).2 = { s with
      pageCrossed := decide ((w.toNat + i.toNat) % 65536 / 256 ≠ w.toNat / 256) } := by
  rw [← toNat_indexAddress w i s, ← pageDiffers_eq_decide]
  rfl

/-- Settles O27: Absolute is its word, and the other two index it by X or Y. -/
theorem absoluteModesIndexAndFlagPages : Obligations.AbsoluteModesIndexAndFlagPages :=
  fun s w => ⟨rfl, toNat_indexAddress w s.x s, indexAddress_state w s.x s,
    toNat_indexAddress w s.y s, indexAddress_state w s.y s⟩

/-- The address in page 0 that a number names is the extension of its byte. -/
theorem eq_zext16 {a : Addr} {b : Byte} (h : a.toNat = b.toNat) : a = zext16 b :=
  BitVec.eq_of_toNat_eq (h.trans (toNat_zext16 b).symm)

/-- Settles O28: the numbers name the two addresses of the pointer; what they give is the address, or
the word that Y indexes. -/
theorem indirectDataModesReadPageZeroPointers :
    Obligations.IndirectDataModesReadPageZeroPointers := by
  refine fun s b lo hi => ⟨fun hlo hhi => ?indexedIndirect, fun hlo hhi w hw => ?indirectIndexed⟩
  case indexedIndirect =>
    obtain rfl : lo = zext16 (b + s.x) := eq_zext16 (hlo.trans (BitVec.toNat_add b s.x).symm)
    obtain rfl : hi = zext16 (b + s.x + 1#8) := eq_zext16 (by
      rw [hhi, toNat_byte_succ, BitVec.toNat_add, Nat.mod_add_mod])
    exact ⟨toNat_mkWord _ _, rfl⟩
  case indirectIndexed =>
    obtain rfl : lo = zext16 b := eq_zext16 hlo
    obtain rfl : hi = zext16 (b + 1#8) := eq_zext16 (hhi.trans (toNat_byte_succ b).symm)
    have hpointer : (s.readZeroPagePointer b).1.toNat = w := hw ▸ toNat_mkWord _ _
    rw [← hpointer]
    exact ⟨toNat_indexAddress _ s.y _, indexAddress_state _ s.y _⟩

/-- Settles O29: an immediate operand makes no access, and a memory operand one read after the mode's
own. -/
theorem operandIsOneReadAtTheEffectiveAddress :
    Obligations.OperandIsOneReadAtTheEffectiveAddress :=
  fun _ _ _ => ⟨rfl, rfl, rfl⟩

end Sys2Proof.Machine

/-! PROOFS across the families, part 5: the round trips. SBC undoes ADC (42_arithmetic.md section 3,
C3), RTS undoes JSR (46_branch_jump.md section 4), RTI undoes BRK (60_exceptions.md section 2). -/

namespace Sys2Proof.Machine
open Says

/-! SBC undoes ADC. -/

/-- The difference that SBC takes from ADC's sum is the old A, less the 256 that the sum lost to its
carry (R171 (b)). -/
theorem binaryDifference_addBinary (a m : Byte) (c : Bool) :
    binaryDifference (addBinary a m c).value m (!c) =
      (a.toNat : Int) - if (addBinary a m c).carry then 256 else 0 := by
  have ha := a.isLt
  have hm := m.isLt
  rw [binaryDifference_eq, toNat_addBinary_value]
  simp only [addBinary, decide_eq_true_eq]
  cases c <;> simp only [num, bitNat, Bool.not_false, Bool.not_true, if_true,
    Bool.false_eq_true, if_false] <;> split <;> omega

theorem subBinary_addBinary_value (a m : Byte) (c : Bool) :
    (subBinary (addBinary a m c).value m (!c)).value = a := by
  have ha := a.isLt
  have hvalue := toNat_subBinary_value (addBinary a m c).value m (!c)
  rw [binaryDifference_addBinary] at hvalue
  apply BitVec.eq_of_toNat_eq
  split at hvalue <;> omega

theorem subBinary_addBinary_carry (a m : Byte) (c : Bool) :
    (subBinary (addBinary a m c).value m (!c)).carry = !(addBinary a m c).carry := by
  have ha := a.isLt
  rw [subBinary, binaryDifference_addBinary]
  cases (addBinary a m c).carry
  · simp
  · simp; omega

/-- CLC after a set carry and SEC after a clear one leave the negation of the carry (R239, R240). -/
theorem exec_negate_carry (c : Bool) (t : State) :
    exec (if c then .clc else .sec) t = .next (t.setFlag .carry !c) := by
  cases c <;> rfl

/-- With D = 0, ADC of a byte writes the binary sum (R170). -/
theorem exec_adcImmediate_binary {s : State} (m : Byte) (hdecimal : s.flag .decimal = false) :
    ∃ t, exec (.adcImmediate m) s = .next t ∧
      AluWritten (addBinary s.a m (s.flag .carry)) s t := by
  refine ⟨_, rfl, ?_⟩
  have hwritten := setAlu_operand_written (.immediate m) (addBinary s.a m (s.flag .carry)) s
  simpa [addTo, operand, addWithCarry, hdecimal] using hwritten

/-- With D = 0, SBC of a byte writes the binary difference (R171). -/
theorem exec_sbcImmediate_binary {s : State} (m : Byte) (hdecimal : s.flag .decimal = false) :
    ∃ t, exec (.sbcImmediate m) s = .next t ∧
      AluWritten (subBinary s.a m (s.flag .carry)) s t := by
  refine ⟨_, rfl, ?_⟩
  have hwritten := setAlu_operand_written (.immediate m) (subBinary s.a m (s.flag .carry)) s
  simpa [subFrom, operand, subWithBorrow, hdecimal] using hwritten

/-- Settles O39: the ADC, the negation of the carry and the SBC in turn, D being 0 throughout. -/
theorem binaryAddThenSubtractRoundTrips : Obligations.BinaryAddThenSubtractRoundTrips := by
  intro s m hdecimal
  obtain ⟨t, hadc, ht⟩ := exec_adcImmediate_binary m hdecimal
  have hdecimal' : (t.setFlag .carry !s.flag .carry).flag .decimal = false := by
    simp [ht.flags.2 .decimal, hdecimal]
  obtain ⟨v, hsbc, hv⟩ := exec_sbcImmediate_binary m hdecimal'
  have ha := hv.a_eq
  have hcarry := hv.carry_eq
  simp only [setFlag_a, ht.a_eq, flag_setFlag, reduceCtorEq, decide_false, Bool.false_or, if_true]
    at ha hcarry
  refine ⟨t, _, v, hadc, exec_negate_carry _ t, hsbc, ?_, ?_⟩
  · rw [ha, subBinary_addBinary_value]
  · rw [hcarry, subBinary_addBinary_carry, ht.carry_eq]

/-! A word pushed and pulled in plain RAM. -/

/-- Different stack pointers give different stack addresses (R21). -/
theorem toNat_stackAddr_ne {v w : Byte} (h : v ≠ w) :
    (stackAddr v).toNat ≠ (stackAddr w).toNat := by
  rw [toNat_stackAddr, toNat_stackAddr]
  exact fun heq => h (BitVec.eq_of_toNat_eq (Nat.add_left_cancel heq))

theorem push_mem_wf {s : State} (v : Byte) (hmem : s.bus.mem.wf = true)
    (hram : s.bus.isRam (stackAddr s.sp) = true) : (s.push v).bus.mem.wf = true := by
  rw [push_bus, write_of_isRam v hram]
  exact write_wf _ v hmem

theorem push_isRam (s : State) (v : Byte) (a : Addr) :
    (s.push v).bus.isRam a = s.bus.isRam a := write_isRam s.bus _ a v

theorem pushWord_isRam (s : State) (w a : Addr) :
    (s.pushWord w).bus.isRam a = s.bus.isRam a := by
  rw [State.pushWord, push_isRam, push_isRam]

theorem push_ramByte_same {s : State} (v : Byte) (hmem : s.bus.mem.wf = true)
    (hram : s.bus.isRam (stackAddr s.sp) = true) :
    (s.push v).bus.ramByte (stackAddr s.sp).toNat = v := write_ramByte_same v hmem hram

/-- In plain RAM the two bytes of a word pushed stand at the two stack addresses (R142). -/
theorem pushWord_ramBytes {s : State} (w : Addr) (hmem : s.bus.mem.wf = true)
    (hhigh : s.bus.isRam (stackAddr s.sp) = true)
    (hlow : s.bus.isRam (stackAddr (s.sp - 1#8)) = true) :
    (s.pushWord w).bus.ramByte (stackAddr s.sp).toNat = hiByte w ∧
      (s.pushWord w).bus.ramByte (stackAddr (s.sp - 1#8)).toNat = loByte w ∧
      (s.pushWord w).bus.mem.wf = true := by
  have hmem' := push_mem_wf (hiByte w) hmem hhigh
  have hlow' : (s.push (hiByte w)).bus.isRam (stackAddr (s.sp - 1#8)) = true :=
    (push_isRam s _ _).trans hlow
  refine ⟨?_, push_ramByte_same _ hmem' hlow', push_mem_wf _ hmem' hlow'⟩
  have hne : s.sp ≠ s.sp - 1#8 := by bv_omega
  exact (push_ramByte_other _ _ (toNat_stackAddr_ne hne)).trans (push_ramByte_same _ hmem hhigh)

theorem pull_of_isRam {t : State} (h : t.bus.isRam (stackAddr (t.sp + 1#8)) = true) :
    t.pull.1 = t.bus.ramByte (stackAddr (t.sp + 1#8)).toNat :=
  congrArg Prod.fst (read_of_isRam h)

/-- A word pulled from plain RAM has the byte pulled first as its low byte (R142). -/
theorem pullWord_of_isRam {t : State} (hlow : t.bus.isRam (stackAddr (t.sp + 1#8)) = true)
    (hhigh : t.bus.isRam (stackAddr (t.sp + 1#8 + 1#8)) = true) :
    t.pullWord.1 = mkWord (t.bus.ramByte (stackAddr (t.sp + 1#8 + 1#8)).toNat)
      (t.bus.ramByte (stackAddr (t.sp + 1#8)).toNat) := by
  have hhigh' : t.pull.2.bus.isRam (stackAddr (t.pull.2.sp + 1#8)) = true := by
    simpa using hhigh
  rw [State.pullWord, pull_of_isRam hlow, pull_of_isRam hhigh', pull_sp, pull_bus, read_ramByte]

/-- Settles O50: the two bytes JSR stored are the two RTS reads. -/
theorem callThenReturnRoundTrips : Obligations.CallThenReturnRoundTrips := by
  intro s w high low hmem hhigh hlow hramHigh hramLow
  obtain rfl : high = stackAddr s.sp := eq_stackAddr hhigh
  obtain rfl : low = stackAddr (s.sp - 1#8) := eq_stackAddr (by rw [hlow, toNat_byte_pred])
  obtain ⟨hhi, hlo, -⟩ := pushWord_ramBytes (s.pc - 1#16) hmem hramHigh hramLow
  have hsp : (callSubroutine w s).sp + 1#8 = s.sp - 1#8 := BitVec.sub_add_cancel _ _
  have hisRam : ∀ a, (callSubroutine w s).bus.isRam a = s.bus.isRam a := pushWord_isRam s _
  have hword : (callSubroutine w s).pullWord.1 = s.pc - 1#16 := by
    rw [pullWord_of_isRam (by rw [hisRam, hsp, hramLow])
      (by rw [hisRam, hsp, BitVec.sub_add_cancel, hramHigh]), hsp, BitVec.sub_add_cancel]
    exact (congrArg₂ mkWord hhi hlo).trans (mkWord_hi_lo _)
  have hpc : (returnFromSubroutine (callSubroutine w s)).pc = s.pc :=
    (congrArg (· + 1#16) hword).trans (BitVec.sub_add_cancel _ _)
  have hsp' : (returnFromSubroutine (callSubroutine w s)).sp = s.sp :=
    (congrArg (· + 1#8) hsp).trans (BitVec.sub_add_cancel _ _)
  have hp : (returnFromSubroutine (callSubroutine w s)).p = s.p := by
    simp [returnFromSubroutine, callSubroutine]
  obtain ⟨ha, hx, hy, -, -⟩ :=
    ((changesOnly_callSubroutine s w).trans (changesOnly_returnFromSubroutine _)).registers
  exact ⟨_, _, rfl, rfl, hpc, hsp', hp, fun _ => ha (by decide), fun _ => hx (by decide),
    fun _ => hy (by decide), fun _ => hsp', fun _ => hpc⟩

/-! RTI undoes BRK. -/

/-- A lawful status comes back from the stack: the copy's Break is dropped, Unused was 1 already
(R255, R256). -/
theorem pulledStatus_pushedStatus {p : Byte} (hunused : flagOf p .unused = true)
    (hbreak : flagOf p .break = false) : pulledStatus (pushedStatus p) = p := by
  apply status_ext
  intro f
  rw [flagOf_pulledStatus, flagOf_pushedStatus]
  cases f <;> simp [hunused, hbreak]

/-- In plain RAM the trap leaves the word and the status it pushed at its three stack addresses; the
vector is only read (R276, R277). -/
theorem takeTrap_ramBytes {s : State} (w : Addr) (hmem : s.bus.mem.wf = true)
    (hram1 : s.bus.isRam (stackAddr s.sp) = true)
    (hram2 : s.bus.isRam (stackAddr (s.sp - 1#8)) = true)
    (hram3 : s.bus.isRam (stackAddr (s.sp - 1#8 - 1#8)) = true) :
    (s.takeTrap w).bus.ramByte (stackAddr s.sp).toNat = hiByte w ∧
      (s.takeTrap w).bus.ramByte (stackAddr (s.sp - 1#8)).toNat = loByte w ∧
      (s.takeTrap w).bus.ramByte (stackAddr (s.sp - 1#8 - 1#8)).toNat = pushedStatus s.p := by
  obtain ⟨hhi, hlo, hmem'⟩ := pushWord_ramBytes w hmem hram1 hram2
  have hvector : ∀ k, (s.takeTrap w).bus.ramByte k = (s.trapPushes w).bus.ramByte k := by
    simp [takeTrap_bus]
  have hram3' : (s.pushWord w).bus.isRam (stackAddr (s.sp - 1#8 - 1#8)) = true :=
    (pushWord_isRam s w _).trans hram3
  simp only [hvector]
  refine ⟨?_, ?_, push_ramByte_same _ hmem' hram3'⟩
  · have hne : s.sp ≠ s.sp - 1#8 - 1#8 := by bv_omega
    exact (push_ramByte_other _ _ (toNat_stackAddr_ne hne)).trans hhi
  · have hne : s.sp - 1#8 ≠ s.sp - 1#8 - 1#8 := by bv_omega
    exact (push_ramByte_other _ _ (toNat_stackAddr_ne hne)).trans hlo

theorem takeTrap_isRam (s : State) (w : Addr) (a : Addr) :
    (s.takeTrap w).bus.isRam a = s.bus.isRam a := by
  simp [takeTrap_bus, trapPushes_bus]

/-- Where the three stack bytes are plain RAM, RTI takes P from the first and PC from the other two
(R256). -/
theorem returnFromTrap_of_isRam {t : State} (h1 : t.bus.isRam (stackAddr (t.sp + 1#8)) = true)
    (h2 : t.bus.isRam (stackAddr (t.sp + 1#8 + 1#8)) = true)
    (h3 : t.bus.isRam (stackAddr (t.sp + 1#8 + 1#8 + 1#8)) = true) :
    t.returnFromTrap.p = pulledStatus (t.bus.ramByte (stackAddr (t.sp + 1#8)).toNat) ∧
      t.returnFromTrap.pc = mkWord (t.bus.ramByte (stackAddr (t.sp + 1#8 + 1#8 + 1#8)).toNat)
        (t.bus.ramByte (stackAddr (t.sp + 1#8 + 1#8)).toNat) := by
  have hbus : t.pullStatus.bus = t.bus := congrArg Prod.snd (read_of_isRam h1)
  have hsp : t.pullStatus.sp = t.sp + 1#8 := rfl
  have hword := pullWord_of_isRam (t := t.pullStatus) (by rw [hbus, hsp, h2])
    (by rw [hbus, hsp, h3])
  rw [hbus, hsp] at hword
  exact ⟨(returnFromTrap_p t).trans (congrArg pulledStatus (pull_of_isRam h1)), hword⟩

/-- Settles O56: the three bytes BRK stored are the three RTI reads. -/
theorem breakThenReturnRoundTrips : Obligations.BreakThenReturnRoundTrips := by
  intro s a1 a2 a3 hinv h1 h2 h3 hram1 hram2 hram3
  obtain ⟨hunused, hbreak, hwf⟩ := hinv
  obtain ⟨-, -, hmem, -, -⟩ := (bus_wf_iff s.bus).mp hwf
  obtain rfl : a1 = stackAddr s.sp := eq_stackAddr h1
  obtain rfl : a2 = stackAddr (s.sp - 1#8) := eq_stackAddr (by rw [h2, toNat_byte_pred])
  obtain rfl : a3 = stackAddr (s.sp - 1#8 - 1#8) :=
    eq_stackAddr (by rw [h3, toNat_byte_pred_pred])
  obtain ⟨hhi, hlo, hstatus⟩ := takeTrap_ramBytes (s.pc + 1#16) hmem hram1 hram2 hram3
  obtain ⟨ha, hx, hy, hsp, -⟩ := takeTrap_registers s (s.pc + 1#16)
  have hisRam := takeTrap_isRam s (s.pc + 1#16)
  have hbrk : exec .brk s = .next (s.takeTrap (s.pc + 1#16)) := rfl
  generalize s.takeTrap (s.pc + 1#16) = t at *
  have hsp1 : t.sp + 1#8 = s.sp - 1#8 - 1#8 := by rw [hsp, BitVec.sub_add_cancel]
  have hsp2 : t.sp + 1#8 + 1#8 = s.sp - 1#8 := by rw [hsp1, BitVec.sub_add_cancel]
  have hsp3 : t.sp + 1#8 + 1#8 + 1#8 = s.sp := by rw [hsp2, BitVec.sub_add_cancel]
  obtain ⟨hp, hpc⟩ := returnFromTrap_of_isRam (t := t) (by rw [hisRam, hsp1, hram3])
    (by rw [hisRam, hsp2, hram2]) (by rw [hisRam, hsp3, hram1])
  rw [hsp1, hstatus, pulledStatus_pushedStatus hunused hbreak] at hp
  rw [hsp3, hsp2, hhi, hlo, mkWord_hi_lo] at hpc
  obtain ⟨ha', hx', hy', -, -⟩ := returnFromTrap_keepsRegisters t
  refine ⟨t, t.returnFromTrap, hbrk, rfl, ?_, hp, hsp3, fun _ => (ha' (by decide)).trans ha,
    fun _ => (hx' (by decide)).trans hx, fun _ => (hy' (by decide)).trans hy, fun _ => hsp3,
    fun h => absurd (List.mem_singleton.mpr rfl) h⟩
  rw [hpc]
  exact BitVec.toNat_add s.pc 1#16

end Sys2Proof.Machine
